-- ==== Sys2Proof/Word.lean ====
section
/-! DEFINITION. The widths of the core's values (00_scope.md R7, R9) and its two named masks (R10). -/

namespace Sys2Proof

/-- A register value, a block, a key or a command word: 64 bits (R7, R9). -/
abbrev Word := BitVec 64

/-- A half-block: 32 bits (R7). -/
abbrev Half := BitVec 32

/-- A subkey: 48 bits (R7). -/
abbrev Subkey := BitVec 48

/-- A real-size tag field: 4 bits (R9, R36). -/
abbrev Tag := BitVec 4

/-- A register index: 8 bits (R9, R51). -/
abbrev RegIndex := BitVec 8

/-- A byte of the host's byte streams (R200). -/
abbrev Byte := BitVec 8

/-- `M64 = 2^64 - 1` (R10). -/
def M64 : Word := 0xFFFFFFFFFFFFFFFF#64

/-- `M56 = 2^56 - 1` (R10). -/
def M56 : Word := 0x00FFFFFFFFFFFFFF#64

end Sys2Proof
end

