-- ==== Sys2Proof/Config.lean ====
section
/-! DEFINITION. The parameters a model takes as arguments (00_scope.md R8, P1 to P3) and the free values
for what the spec leaves UNSPECIFIED while the machine goes on. `LATENCY` (P4) is no number here: it is the
place of the core's turn in the schedule of events (log 5). -/

namespace Sys2Proof

/-- `KEY_SCHEDULE` (R120): the source's simplified schedule (R121) or the canonical one (R122). -/
inductive KeySchedule where
  | simplified
  | canonical
  deriving DecidableEq, Repr

/-- `KEY_INPUT_MASK` (R124): LOAD_KEY takes DIN as it stands, or its low 56 bits. -/
inductive KeyInputMask where
  | none
  | low56
  deriving DecidableEq, Repr

/-- `TAG_REPR` (R204), a parameter of the host only: how the real-size count travels. -/
inductive TagRepr where
  | sideband
  | embeddedLowByte
  deriving DecidableEq, Repr

/-- The parameters that fix an instance of the core (R120: no command or register changes them). -/
structure Config where
  keySchedule  : KeySchedule
  keyInputMask : KeyInputMask
  deriving DecidableEq, Repr

/-- The defaults of R8: `SIMPLIFIED`, `NONE`. -/
def Config.default : Config := { keySchedule := .simplified, keyInputMask := .none }

/-- FREE VALUE (log 3): the value of the n-th host read made while BUSY = 1 of a register whose value is
then UNSPECIFIED (R58, R223). Nothing constrains it. -/
opaque Config.freeWord : Nat → BitVec 64

/-- FREE VALUE (log 3): what the n-th such read leaves in STATUS.DOUT_PENDING if it was a read of DOUT
(R223: "leaves DOUT_PENDING UNSPECIFIED"). -/
opaque Config.freeBit : Nat → Bool

end Sys2Proof
end

