-- ==== Sys2Proof/Syntax.lean ====
section
/-! DEFINITION. The syntax: commands (30_encoding.md R71), the raw fields of a command word (R70), the ways a
word fails to be a command (R73 to R75), the registers (10_state.md R20), and what the host writes in a script
(R80, R81). -/

namespace Sys2Proof

/-- A command: one constructor per row of spec/opcode_table.json (R71). The one operand any command
carries is ROUND's SKSEL, a 4-bit index, every value of which is legal (R72). -/
inductive Instr where
  | nop
  | loadKey
  | encBlock
  | decBlock
  | round (sksel : BitVec 4)
  | ecbEncStart
  | ecbDecStart
  | ctrEncStart
  | ctrDecStart
  | msgBlock
  | msgEnd
  | clearErr
  deriving DecidableEq, Repr

/-- The three fields of a CMD64 word (R70), as they stand in it. -/
structure CommandFields where
  /-- bits [7:0] -/
  op    : BitVec 8
  /-- bits [11:8] -/
  sksel : BitVec 4
  /-- bits [63:12] -/
  res   : BitVec 52
  deriving DecidableEq, Repr

/-- Why a word is no command. The hardware records ILLEGAL (code 1) for each. -/
inductive DecodeError where
  /-- a bit of RES is set (R73) -/
  | reservedBits
  /-- OP is in 0x0C..0xFF (R74) -/
  | reservedOpcode
  /-- OP is not 0x04 and SKSEL is not 0 (R75) -/
  | skselOutsideRound
  deriving DecidableEq, Repr

/-- The registers of the register map (R20). -/
inductive Reg where
  | cmd
  | status
  | din
  | dinTag
  | dout
  | doutTag
  | ctr
  | key
  | sk (i : BitVec 4)
  deriving DecidableEq, Repr

/-- One event of the single total order of R61: a host access (R222, R223), the core's turn to take its step
(R225), or reset (R270); or the host's WAIT, which is one such access, made again as long as its test says so. -/
inductive Event where
  | write (idx : RegIndex) (v : Word)
  | read (idx : RegIndex)
  | core
  | rst
  /-- the host's WAIT loop (R81), still to be passed: a read of STATUS, repeated while bit 8 of the value read is 1;
  if the first read finds it 1, so do `polls` more before the core takes its turn (log 13) -/
  | wait (polls : Nat)
  deriving DecidableEq, Repr

/-- A line of a host script (R80) or a pseudo-operation (R81). Where a `WAIT` stands in one, `polls` says
where the core's turn comes in its loop: after that many reads of STATUS that find BUSY = 1 (log 13). -/
inductive ScriptOp where
  | wr (idx : RegIndex) (v : Word)
  | rd (idx : RegIndex)
  | cmd (i : Instr)
  | wait (polls : Nat)
  | perform (i : Instr) (polls : Nat)
  | setKey (k : Word) (polls : Nat)
  | encb (v : Word) (polls : Nat)
  | decb (v : Word) (polls : Nat)
  | rnd (r : Word) (i : BitVec 4) (polls : Nat)
  | feed (v t : Word) (polls : Nat)
  | check
  deriving DecidableEq, Repr

end Sys2Proof
end

