-- ==== Sys2Proof/WellFormed.lean ====
section
/-! DEFINITION. The checks on syntax: the three conditions under which the fields of a word are a command's
(30_encoding.md R73 to R75), and the framing invariant of a message (44_modes.md R202). A term of `Instr` needs
no check of its own: its one operand is a 4-bit vector and every value of it is legal (R72); that its fields
pass the checks below is `Laws.Decode.fields_wellFormed`. -/

namespace Sys2Proof

/-- R73: no bit of RES is set. -/
def CommandFields.resOk (f : CommandFields) : Bool := f.res == 0#52

/-- R74: OP is not in 0x0C..0xFF. -/
def CommandFields.opOk (f : CommandFields) : Bool := decide (f.op ≤ 0x0B#8)

/-- R75: SKSEL is 0, or OP is ROUND's. -/
def CommandFields.skselOk (f : CommandFields) : Bool := f.op == 0x04#8 || f.sksel == 0#4

/-- The fields of a legal command word (R73, R74, R75). -/
def CommandFields.wellFormed (f : CommandFields) : Bool := f.resOk && f.opOk && f.skselOk

/-- The framing invariant (R202): "every block in a framed message has real-size in [0,8]; only the last block
in a message may have real-size < 8" (so only the last may have 0). -/
def framedMessage : List (Word × Tag) → Bool
  | [] => true
  | [(_, t)] => decide (t ≤ 8#4)
  | (_, t) :: rest => t == 8#4 && framedMessage rest

end Sys2Proof
end

