-- ==== Sys2Proof/Decode.lean ====
section
/-! DEFINITION. Decoding a 64-bit CMD value (30_encoding.md R70 to R77), total and independent of any state, and
the encoder (R82). A command is one 64-bit word: no other length exists (R70). -/

namespace Sys2Proof

/-- The fields of a CMD value, as R70 places them. -/
def fieldsOf (v : Word) : CommandFields :=
  { op := v.extractLsb' 0 8, sksel := v.extractLsb' 8 4, res := v.extractLsb' 12 52 }

/-- The word with these fields (R70): RES in [63:12], SKSEL in [11:8], OP in [7:0]. -/
def wordOf (f : CommandFields) : Word := (f.res ++ f.sksel ++ f.op).cast rfl

/-- The opcode map (R71): the command of an OP value, `none` for the reserved 0x0C..0xFF. -/
def commandOf (op : BitVec 8) (sksel : BitVec 4) : Option Instr :=
  if op = 0x00#8 then some .nop
  else if op = 0x01#8 then some .loadKey
  else if op = 0x02#8 then some .encBlock
  else if op = 0x03#8 then some .decBlock
  else if op = 0x04#8 then some (.round sksel)
  else if op = 0x05#8 then some .ecbEncStart
  else if op = 0x06#8 then some .ecbDecStart
  else if op = 0x07#8 then some .ctrEncStart
  else if op = 0x08#8 then some .ctrDecStart
  else if op = 0x09#8 then some .msgBlock
  else if op = 0x0A#8 then some .msgEnd
  else if op = 0x0B#8 then some .clearErr
  else none

/-- Decoding (R77): RES first, then OP, then SKSEL. Every error is ILLEGAL to the core (R225). -/
def decode (v : Word) : Except DecodeError Instr :=
  let f := fieldsOf v
  if f.res ≠ 0#52 then .error .reservedBits
  else
    match commandOf f.op f.sksel with
    | none => .error .reservedOpcode
    | some i => if f.op ≠ 0x04#8 ∧ f.sksel ≠ 0#4 then .error .skselOutsideRound else .ok i

/-- The OP value of a command (R71). -/
def opcodeOf : Instr → BitVec 8
  | .nop => 0x00#8
  | .loadKey => 0x01#8
  | .encBlock => 0x02#8
  | .decBlock => 0x03#8
  | .round _ => 0x04#8
  | .ecbEncStart => 0x05#8
  | .ecbDecStart => 0x06#8
  | .ctrEncStart => 0x07#8
  | .ctrDecStart => 0x08#8
  | .msgBlock => 0x09#8
  | .msgEnd => 0x0A#8
  | .clearErr => 0x0B#8

/-- The SKSEL value of a command: ROUND's index, 0 for every other (R70, R72). -/
def skselOf : Instr → BitVec 4
  | .nop => 0#4
  | .loadKey => 0#4
  | .encBlock => 0#4
  | .decBlock => 0#4
  | .round k => k
  | .ecbEncStart => 0#4
  | .ecbDecStart => 0#4
  | .ctrEncStart => 0#4
  | .ctrDecStart => 0#4
  | .msgBlock => 0#4
  | .msgEnd => 0#4
  | .clearErr => 0#4

/-- The fields of a command's word (R82). -/
def fieldsOfInstr (i : Instr) : CommandFields := { op := opcodeOf i, sksel := skselOf i, res := 0#52 }

/-- The word of a command (R82). -/
def encode (i : Instr) : Word := wordOf (fieldsOfInstr i)

/-- The mnemonic of a command (R71). -/
def mnemonicOf : Instr → String
  | .nop => "NOP"
  | .loadKey => "LOAD_KEY"
  | .encBlock => "ENC_BLOCK"
  | .decBlock => "DEC_BLOCK"
  | .round _ => "ROUND"
  | .ecbEncStart => "ECB_ENC_START"
  | .ecbDecStart => "ECB_DEC_START"
  | .ctrEncStart => "CTR_ENC_START"
  | .ctrDecStart => "CTR_DEC_START"
  | .msgBlock => "MSG_BLOCK"
  | .msgEnd => "MSG_END"
  | .clearErr => "CLEAR_ERR"

/-- The one CMD word whose low `nbits` bits are `w`'s, the bits above them 0. -/
def tableWord (nbits w : Nat) : Word := BitVec.ofNat 64 (w % 2 ^ nbits)

/-- What the decoder reads from a word numbered as spec/opcode_table.json numbers it. -/
def decodeTableWord (nbits w : Nat) : Option Instr :=
  match decode (tableWord nbits w) with
  | .ok i => some i
  | .error _ => none

/-- The registers' indices (R20); `none` for a reserved index (R53: 0x08..0x0F and 0x20..0xFF). -/
def regOfIndex (idx : RegIndex) : Option Reg :=
  if idx = 0x00#8 then some .cmd
  else if idx = 0x01#8 then some .status
  else if idx = 0x02#8 then some .din
  else if idx = 0x03#8 then some .dinTag
  else if idx = 0x04#8 then some .dout
  else if idx = 0x05#8 then some .doutTag
  else if idx = 0x06#8 then some .ctr
  else if idx = 0x07#8 then some .key
  else if idx.extractLsb' 4 4 = 0x1#4 then some (.sk (idx.extractLsb' 0 4))
  else none

/-- The index of a register (R20, R80). -/
def indexOfReg : Reg → RegIndex
  | .cmd => 0x00#8
  | .status => 0x01#8
  | .din => 0x02#8
  | .dinTag => 0x03#8
  | .dout => 0x04#8
  | .doutTag => 0x05#8
  | .ctr => 0x06#8
  | .key => 0x07#8
  | .sk i => (0x1#4 ++ i).cast rfl

end Sys2Proof
end

