-- ==== Sys2Proof/Machine/State.lean ====
section
/-! DEFINITION. The state of the core and of the run (10_state.md), as plain data, and the state right after reset
(70_reset_and_hazards.md R270, 10_state.md R45). -/

namespace Sys2Proof.Machine

/-- STATUS.MODE (R24, R27): 0 = ECB, 1 = CTR. -/
inductive Mode where
  | ecb
  | ctr
  deriving DecidableEq, Repr

/-- STATUS.DIR (R24, R28): 0 = encrypt, 1 = decrypt. -/
inductive Dir where
  | encrypt
  | decrypt
  deriving DecidableEq, Repr

/-- The error codes 1 to 9 (60_exceptions.md R240). Codes 10 to 15 are never recorded. -/
inductive ErrCode where
  | illegal
  | noKey
  | state
  | tagRange
  | sequence
  | unread
  | access
  | ctrExhausted
  | busy
  deriving DecidableEq, Repr

/-- The acceptance checks: the columns of R247, STATE split by the value of MSG_ACTIVE that fails. -/
inductive Check where
  /-- STATE (3): fails when MSG_ACTIVE = 1 -/
  | noMessage
  /-- STATE (3): fails when MSG_ACTIVE = 0 -/
  | inMessage
  /-- NO_KEY (2): fails when KEY_VALID = 0 -/
  | keyLoaded
  /-- UNREAD (6): fails when DOUT_PENDING = 1 -/
  | resultRead
  /-- TAG_RANGE (4): fails when DIN_TAG.TAG > 8 -/
  | tagInRange
  /-- SEQUENCE (5): fails when TAIL_SEEN = 1 -/
  | noTailYet
  /-- CTR_EXHAUSTED (8): fails when MODE = 1 and CTR_EXH = 1 -/
  | counterLeft
  deriving DecidableEq, Repr

/-- How a run comes to use an UNSPECIFIED value (93_implementation_defined.md U1 to U5; logs 1, 2, 3). -/
inductive UnspecUse where
  /-- U1: a command reads DIN or DIN_TAG while it is unwritten -/
  | operandUnwritten
  /-- U2: a host read of DIN, DIN_TAG or DOUT_TAG while it is unwritten -/
  | readUnwritten
  /-- U3: a host read of DOUT while DOUT_VALID = 0 -/
  | readNoResult
  /-- U4: a host read of KEY or SK[i] while KEY_VALID = 0 -/
  | readNoKey
  /-- U5: a host read of DOUT, DOUT_TAG, CTR, KEY or SK[i] while BUSY = 1 -/
  | readBusy
  deriving DecidableEq, Repr

/-- The STATUS register by its fields (R24). The reserved bits are stored nowhere and read 0 (log 14). -/
structure Status where
  keyValid    : Bool
  msgActive   : Bool
  mode        : Mode
  dir         : Dir
  doutValid   : Bool
  doutPending : Bool
  tailSeen    : Bool
  ctrExh      : Bool
  busy        : Bool
  /-- ERR: `none` is the field's value 0 (R34) -/
  err         : Option ErrCode
  deriving DecidableEq, Repr

/-- The host's fail-fast ends (R203, R204, U18), raised by `unframe` and `unframeEmbedded` of
Machine/Framing.lean only: safe, the spec gives the host no result there. No step of the machine ends in one. -/
inductive Fault where
  /-- `unframe` met a real-size outside 0..8 (R203): raised by `unframe`; safe -/
  | framingTag
  /-- `unframe` met an embedded count above 7 (R204 (b)): raised by `unframeEmbedded`; safe -/
  | framingCount
  deriving DecidableEq, Repr

/-- Reasons not to run a command. -/
inductive Refusal where
  /-- a command without a meaning; raised by no arm, since every command has its meaning; safe -/
  | notModelled (mnemonic : String)
  deriving DecidableEq, Repr

/-- The state of the machine. -/
structure State where
  /-- KEY_SCHEDULE and KEY_INPUT_MASK of this instance (R8); nothing changes them (log 6) -/
  cfg : Config
  /-- STATUS (R24) -/
  status : Status
  /-- PENDING (R43) -/
  pending : Option Word
  /-- DIN (R35) -/
  din : Word
  /-- DIN_TAG.TAG (R36) -/
  dinTag : Tag
  /-- DOUT (R37) -/
  dout : Word
  /-- DOUT_TAG, bits [3:0] (R38) -/
  doutTag : Tag
  /-- CTR (R39) -/
  ctr : Word
  /-- KEY (R40) -/
  key : Word
  /-- SK[0..15] (R41) -/
  sk : Vector Word 16
  /-- the marker *unwritten* of DIN (R44) -/
  dinUnwritten : Bool
  /-- the marker *unwritten* of DIN_TAG (R44) -/
  dinTagUnwritten : Bool
  /-- the marker *unwritten* of DOUT_TAG (R44, R38) -/
  doutTagUnwritten : Bool
  /-- the events to come, the next one first (logs 5 and 13) -/
  schedule : List Event
  /-- what the host has read, oldest first (R18, log 8) -/
  reads : List (RegIndex × Word)
  /-- every error raised, oldest first (R244, log 8) -/
  errLog : List ErrCode
  /-- the first use of an UNSPECIFIED value, the "fault of the run" (R44, log 1) -/
  runFault : Option UnspecUse
  /-- how many free values have been taken (log 3, log 10) -/
  freeCtr : Nat
  deriving DecidableEq, Repr

/-- STATUS after reset: every field 0 (R270). -/
def Status.reset : Status :=
  { keyValid := false, msgActive := false, mode := .ecb, dir := .encrypt, doutValid := false,
    doutPending := false, tailSeen := false, ctrExh := false, busy := false, err := none }

/-- The machine right after reset (R270, R45), with the default parameters (R8). The spec fixes no reset value
for DIN, DIN_TAG, DOUT, DOUT_TAG, KEY and SK: DESIGN CHOICE 0 for each (log 4, unsafe). `freeCtr` starts at 0
and `schedule` empty: DESIGN CHOICE (logs 10 and 5). -/
def State.reset : State :=
  { cfg := Config.default, status := Status.reset, pending := none, din := 0#64, dinTag := 0#4,
    dout := 0#64, doutTag := 0#4, ctr := 0#64, key := 0#64, sk := Vector.replicate 16 0#64,
    dinUnwritten := true, dinTagUnwritten := true, doutTagUnwritten := true, schedule := [],
    reads := [], errLog := [], runFault := none, freeCtr := 0 }

end Sys2Proof.Machine
end

