-- ==== Sys2Proof/Machine/Flags.lean ====
section
/-! DEFINITION. STATUS: the word a read of it returns (10_state.md R24), the codes of ERR (60_exceptions.md R240),
the acceptance checks (R247), and what the commands write to its fields. -/

namespace Sys2Proof.Machine

/-- The code of an error in STATUS.ERR (R240). -/
def ErrCode.code : ErrCode → BitVec 4
  | .illegal => 1#4
  | .noKey => 2#4
  | .state => 3#4
  | .tagRange => 4#4
  | .sequence => 5#4
  | .unread => 6#4
  | .access => 7#4
  | .ctrExhausted => 8#4
  | .busy => 9#4

/-- STATUS.MODE as a bit (R24). -/
def Mode.bit : Mode → Bool
  | .ecb => false
  | .ctr => true

/-- STATUS.DIR as a bit (R24). -/
def Dir.bit : Dir → Bool
  | .encrypt => false
  | .decrypt => true

/-- The field STATUS.ERR (R34): 0 when no error is recorded. -/
def Status.errField (st : Status) : BitVec 4 :=
  match st.err with
  | none => 0#4
  | some e => e.code

/-- The 64-bit value of STATUS (R24): [63:16] reserved, [15:12] ERR, [11:9] reserved, then bits 8 to 0. -/
def Status.word (st : Status) : Word :=
  (0#48 ++ st.errField ++ 0#3 ++ BitVec.ofBool st.busy ++ BitVec.ofBool st.ctrExh ++ BitVec.ofBool st.tailSeen
    ++ BitVec.ofBool st.doutPending ++ BitVec.ofBool st.doutValid ++ BitVec.ofBool st.dir.bit
    ++ BitVec.ofBool st.mode.bit ++ BitVec.ofBool st.msgActive ++ BitVec.ofBool st.keyValid).cast rfl

/-- Bit 8 (BUSY) of a value read from STATUS (R24), the test of WAIT's loop (R81). -/
def busyBit (statusWord : Word) : Bool := statusWord.getLsbD 8

/-- The code a failing check raises (R247). -/
def Check.code : Check → ErrCode
  | .noMessage => .state
  | .inMessage => .state
  | .keyLoaded => .noKey
  | .resultRead => .unread
  | .tagInRange => .tagRange
  | .noTailYet => .sequence
  | .counterLeft => .ctrExhausted

/-- Whether a check fails in a state (R247). -/
def Check.fails (c : Check) (s : State) : Bool :=
  match c with
  | .noMessage => s.status.msgActive
  | .inMessage => !s.status.msgActive
  | .keyLoaded => !s.status.keyValid
  | .resultRead => s.status.doutPending
  | .tagInRange => decide (8#4 < s.dinTag)
  | .noTailYet => s.status.tailSeen
  | .counterLeft => s.status.mode == .ctr && s.status.ctrExh

/-- The error of the first check that fails, in the order given (R247). -/
def firstFailing : List Check → State → Option ErrCode
  | [], _ => none
  | c :: rest, s => if c.fails s then some c.code else firstFailing rest s

/-- STATUS after `raise Err(e)` (R244): the first error is kept, an active message is aborted. -/
def Status.afterRaise (e : ErrCode) (st : Status) : Status :=
  { st with err := st.err.or (some e), msgActive := false }

/-- STATUS after a result (R167, R146, R185): DOUT_VALID <- 1, DOUT_PENDING <- 1. -/
def Status.afterResult (st : Status) : Status := { st with doutValid := true, doutPending := true }

/-- STATUS after a *_START command with these MODE and DIR values (R181). -/
def Status.afterStart (m : Mode) (d : Dir) (st : Status) : Status :=
  { st with msgActive := true, mode := m, dir := d, tailSeen := false, ctrExh := false }

/-- STATUS.TAIL_SEEN after a block of tag `t` (R186). -/
def Status.afterTag (t : Tag) (st : Status) : Status :=
  { st with tailSeen := st.tailSeen || decide (t < 8#4) }

/-- STATUS.CTR_EXH after a CTR block that used the counter value `c` (R187). -/
def Status.afterCounter (c : Word) (st : Status) : Status :=
  { st with ctrExh := st.ctrExh || c == M64 }

end Sys2Proof.Machine
end

