-- ==== Sys2Proof/Machine/Operands.lean ====
section
/-! DEFINITION. Bit selection by table (00_scope.md R12), S-box lookup (40_tables.md R106), and the operands the
commands take from the registers (30_encoding.md R72, 20_memory.md R54). -/

namespace Sys2Proof.Machine

/-- `Permute(x, T, n)` (R12): output position k (1 = most significant) is input position T(k), where position p
of an n-bit value is its bit `n - p` (R11). `m` is the number of entries of `T`. -/
def permute {n : Nat} (m : Nat) (T : List Nat) (x : BitVec n) : BitVec m :=
  (BitVec.ofBoolListBE (T.map fun p => x.getLsbD (n - p))).setWidth m

/-- The row of a 6-bit S-box input: `2*b[5] + b[0]` (R106). -/
def sboxRow (b : BitVec 6) : Nat := 2 * (b.getLsbD 5).toNat + (b.getLsbD 0).toNat

/-- The column of a 6-bit S-box input: `b[4:1]` (R106). -/
def sboxCol (b : BitVec 6) : Nat := (b.extractLsb' 1 4).toNat

/-- `Sbox_j(b)` for the box with table `S` (R106). -/
def sbox (S : List (List Nat)) (b : BitVec 6) : BitVec 4 :=
  BitVec.ofNat 4 ((S.getD (sboxRow b) []).getD (sboxCol b) 0)

/-- KeyIn (R124). -/
def keyIn (mask : KeyInputMask) (v : Word) : Word :=
  match mask with
  | .none => v
  | .low56 => v &&& M56

/-- ROUND's half-block operand: DIN[31:0] (R146). -/
def dinHalf (s : State) : Half := s.din.extractLsb' 0 32

/-- Bits [47:0] of the subkey register SK[i] (R41, R142). -/
def subkey (s : State) (i : BitVec 4) : Subkey := (s.sk[i.toNat]'i.isLt).extractLsb' 0 48

/-- The subkeys of SK[0..15], 48 bits each (R41). -/
def subkeys (s : State) : Vector Subkey 16 := s.sk.map fun r => r.extractLsb' 0 48

end Sys2Proof.Machine
end

