-- ==== Sys2Proof/Machine/Ops.lean ====
section
/-! DEFINITION. The operations every command and host access is made of: recording an error (60_exceptions.md
R244, the core's whole exception mechanism, R241, R250) and the return from it (R251), the acceptance of a
command (R245 to R247), the command latch (10_state.md R43), and the writes of the registers. -/

namespace Sys2Proof.Machine

/-- `raise Err(e)` (R244): ERR keeps the first error, MSG_ACTIVE <- 0, and the model's log takes the code.
This is the whole entry to the error condition (R250). -/
def raiseErr (e : ErrCode) (s : State) : State :=
  { s with status := s.status.afterRaise e, errLog := s.errLog ++ [e] }

/-- The return from the error condition (R251, R221): ERR <- 0, nothing else. -/
def clearErr (s : State) : State := { s with status := { s.status with err := none } }

/-- Marks the run as faulty, if `c` holds and it is not marked yet: an UNSPECIFIED value is used (R44, U1 to U5).
The hardware raises nothing and goes on, and so does the model (DESIGN CHOICE, log 1). -/
def noteUnspec (u : UnspecUse) (c : Bool) (s : State) : State :=
  { s with runFault := s.runFault.or (if c then some u else none) }

/-- A command reads DIN (U1 while it is unwritten). -/
def noteDinRead (s : State) : State := noteUnspec .operandUnwritten s.dinUnwritten s

/-- A command reads DIN_TAG (U1 while it is unwritten; log 15). -/
def noteTagRead (s : State) : State := noteUnspec .operandUnwritten s.dinTagUnwritten s

/-- The checks in their order, then the effect: refused with the first failing check's error and no other effect,
or performed (R225, R245, R247). -/
def guarded (checks : List Check) (effect : State → State) (s : State) : State :=
  match firstFailing checks s with
  | some e => raiseErr e s
  | none => effect s

/-- A command other than NOP and CLEAR_ERR: ignored while ERR is not 0 (R246), before every check (R247). -/
def unlessErr (effect : State → State) (s : State) : State :=
  if s.status.err.isSome then s else effect s

/-- The latch is freed: PENDING <- empty, BUSY <- 0 (R225). -/
def freeLatch (s : State) : State := { s with pending := none, status := { s.status with busy := false } }

/-- An accepted write of CMD: PENDING <- v, BUSY <- 1 (R222). -/
def latch (v : Word) (s : State) : State :=
  { s with pending := some v, status := { s.status with busy := true } }

/-- KEY <- k, SK[i] <- zext_64 of subkey i for all 16 at once, KEY_VALID <- 1 (R125, R126). -/
def storeKey (k : Word) (sks : Vector Subkey 16) (s : State) : State :=
  { s with key := k, sk := sks.map (BitVec.setWidth 64), status := { s.status with keyValid := true } }

/-- DOUT <- v, DOUT_VALID <- 1, DOUT_PENDING <- 1 (R146, R167, R168, R185). -/
def putResult (v : Word) (s : State) : State := { s with dout := v, status := s.status.afterResult }

/-- The common effect of the *_START commands (R181). -/
def startMsg (m : Mode) (d : Dir) (s : State) : State :=
  { s with status := s.status.afterStart m d, ctr := 0#64 }

/-- MSG_ACTIVE <- 0 (R193). -/
def endMsg (s : State) : State := { s with status := { s.status with msgActive := false } }

/-- The counter after a CTR block (R185, R187): CTR_EXH <- 1 if it was M64, then CTR <- CTR + 1 mod 2^64. -/
def advanceCtr (s : State) : State :=
  { s with status := s.status.afterCounter s.ctr, ctr := s.ctr + 1#64 }

/-- DOUT_TAG <- t, TAIL_SEEN <- 1 if t < 8 (R185, R186, R189); DOUT_TAG is written from here on (R44). -/
def putTag (t : Tag) (s : State) : State :=
  { s with doutTag := t, doutTagUnwritten := false, status := s.status.afterTag t }

/-- DIN <- v; DIN becomes written (R222, R44). -/
def storeDin (v : Word) (s : State) : State := { s with din := v, dinUnwritten := false }

/-- DIN_TAG.TAG <- v[3:0]; v[63:4] ignored; DIN_TAG becomes written (R222, R36, R44). -/
def storeDinTag (v : Word) (s : State) : State :=
  { s with dinTag := v.extractLsb' 0 4, dinTagUnwritten := false }

/-- DOUT_PENDING <- b (R223). -/
def setPending (b : Bool) (s : State) : State := { s with status := { s.status with doutPending := b } }

/-- One free value has been taken (log 3). -/
def takeFree (s : State) : State := { s with freeCtr := s.freeCtr + 1 }

/-- The host keeps the value a read returned (R18, log 8). -/
def logRead (idx : RegIndex) (v : Word) (s : State) : State := { s with reads := s.reads ++ [(idx, v)] }

/-- `es` come before the events listed (log 5). -/
def listFirst (es : List Event) (s : State) : State := { s with schedule := es ++ s.schedule }

/-- What the core step does with a word that is no command (R225, R73 to R75): ILLEGAL, or ignored while ERR
is not 0. -/
def illegalWord (s : State) : State := unlessErr (raiseErr .illegal) s

end Sys2Proof.Machine
end

