-- ==== Sys2Proof/Machine/Round.lean ====
section
/-! DEFINITION. The Feistel round function and ROUND (42_round_function.md). -/

namespace Sys2Proof.Machine

/-- Expansion (R141): `Permute(R, E, 32)`. -/
def expand (r : Half) : BitVec 48 := permute 48 tableE r

/-- Substitution (R143): group g is Y[47-6g : 42-6g] and goes to S(g+1); group 0's nibble is the most
significant. -/
def substitute (y : BitVec 48) : Half :=
  (sbox tableS1 (y.extractLsb' 42 6) ++ sbox tableS2 (y.extractLsb' 36 6) ++ sbox tableS3 (y.extractLsb' 30 6)
    ++ sbox tableS4 (y.extractLsb' 24 6) ++ sbox tableS5 (y.extractLsb' 18 6) ++ sbox tableS6 (y.extractLsb' 12 6)
    ++ sbox tableS7 (y.extractLsb' 6 6) ++ sbox tableS8 (y.extractLsb' 0 6)).cast rfl

/-- `F(R, k)` (R140): expansion, key mixing (R142), substitution, permutation P (R144). -/
def feistel (r : Half) (k : Subkey) : Half := permute 32 tableP (substitute (expand r ^^^ k))

/-- The effect of ROUND i (R146). -/
def roundEffect (i : BitVec 4) (s : State) : State :=
  putResult ((feistel (dinHalf s) (subkey s i)).setWidth 64) (noteDinRead s)

/-- ROUND i (R146, R247). -/
def execRound (i : BitVec 4) (s : State) : Host.Outcome State Fault Refusal :=
  .next (unlessErr (guarded [.noMessage, .keyLoaded, .resultRead] (roundEffect i)) s)

end Sys2Proof.Machine
end

