-- ==== Sys2Proof/Machine/Block.lean ====
section
/-! DEFINITION. The block cipher core and the two block commands (43_block_core.md). -/

namespace Sys2Proof.Machine

/-- The halves after one round (R162): both are computed from the old ones. -/
def feistelRound (lr : Half × Half) (k : Subkey) : Half × Half := (lr.2, lr.1 ^^^ feistel lr.2 k)

/-- The subkeys in the order a transformation uses them (R165, R127). -/
def roundKeys (sks : Vector Subkey 16) (forward : Bool) : List Subkey :=
  if forward then sks.toList else sks.toList.reverse

/-- `transformBlock(B, SKv, forward)` (R160 to R164): IP, the split, 16 rounds, the output swap, FP. -/
def transformBlock (b : Word) (sks : Vector Subkey 16) (forward : Bool) : Word :=
  let x : Word := permute 64 tableIP b
  let lr := (roundKeys sks forward).foldl feistelRound (x.extractLsb' 32 32, x.extractLsb' 0 32)
  let pre : Word := (lr.2 ++ lr.1).cast rfl
  permute 64 tableFP pre

/-- The effect of ENC_BLOCK (R167). -/
def encBlockEffect (s : State) : State := putResult (transformBlock s.din (subkeys s) true) (noteDinRead s)

/-- The effect of DEC_BLOCK (R168). -/
def decBlockEffect (s : State) : State := putResult (transformBlock s.din (subkeys s) false) (noteDinRead s)

/-- ENC_BLOCK (R167, R247). -/
def execEncBlock (s : State) : Host.Outcome State Fault Refusal :=
  .next (unlessErr (guarded [.noMessage, .keyLoaded, .resultRead] encBlockEffect) s)

/-- DEC_BLOCK (R168, R247). -/
def execDecBlock (s : State) : Host.Outcome State Fault Refusal :=
  .next (unlessErr (guarded [.noMessage, .keyLoaded, .resultRead] decBlockEffect) s)

end Sys2Proof.Machine
end

