-- ==== Sys2Proof/Machine/Control.lean ====
section
/-! DEFINITION. The control commands (45_control.md R220, R221). -/

namespace Sys2Proof.Machine

/-- NOP (R220): nothing, even while ERR is not 0. -/
def execNop (s : State) : Host.Outcome State Fault Refusal := .next s

/-- CLEAR_ERR (R221): ERR <- 0, even while ERR is not 0. -/
def execClearErr (s : State) : Host.Outcome State Fault Refusal := .next (clearErr s)

end Sys2Proof.Machine
end

