-- ==== Sys2Proof/Machine/KeySchedule.lean ====
section
/-! DEFINITION. The key schedule and LOAD_KEY (41_key_schedule.md). -/

namespace Sys2Proof.Machine

/-- `Schedule_SIMPLIFIED(K)` (R121): subkey i is `rotl_64(K, i) & M48`. -/
def scheduleSimplified (k : Word) : Vector Subkey 16 :=
  Vector.ofFn fun i : Fin 16 => (k.rotateLeft i.val).extractLsb' 0 48

/-- The rounds of `Schedule_CANONICAL` (R122) over the remaining shift amounts, from the halves C and D. -/
def canonicalRounds : List Nat → BitVec 28 → BitVec 28 → List Subkey
  | [], _, _ => []
  | n :: rest, c, d =>
    let c' := c.rotateLeft n
    let d' := d.rotateLeft n
    permute 48 tablePC2 (c' ++ d') :: canonicalRounds rest c' d'

/-- `Schedule_CANONICAL(K)` (R122): PC-1 on the whole 64-bit key, the two halves rotated by SHIFTS, PC-2. -/
def scheduleCanonical (k : Word) : Vector Subkey 16 :=
  let cd : BitVec 56 := permute 56 tablePC1 k
  let ks := canonicalRounds tableShifts (cd.extractLsb' 28 28) (cd.extractLsb' 0 28)
  Vector.ofFn fun i : Fin 16 => ks.getD i.val 0#48

/-- `Schedule(K)` (R120). -/
def schedule (which : KeySchedule) (k : Word) : Vector Subkey 16 :=
  match which with
  | .simplified => scheduleSimplified k
  | .canonical => scheduleCanonical k

/-- The effect of LOAD_KEY (R125). -/
def loadKeyEffect (s : State) : State :=
  let k := keyIn s.cfg.keyInputMask s.din
  storeKey k (schedule s.cfg.keySchedule k) (noteDinRead s)

/-- LOAD_KEY (R125, R247). -/
def execLoadKey (s : State) : Host.Outcome State Fault Refusal :=
  .next (unlessErr (guarded [.noMessage] loadKeyEffect) s)

end Sys2Proof.Machine
end

