-- ==== Sys2Proof/Machine/Modes.lean ====
section
/-! DEFINITION. The ECB and CTR mode sequencer (44_modes.md). -/

namespace Sys2Proof.Machine

/-- A *_START command with its MODE and DIR (R181, R247). -/
def startCommand (m : Mode) (d : Dir) (s : State) : State :=
  unlessErr (guarded [.noMessage, .keyLoaded] (startMsg m d)) s

/-- ECB_ENC_START (R182). -/
def execEcbEncStart (s : State) : Host.Outcome State Fault Refusal := .next (startCommand .ecb .encrypt s)

/-- ECB_DEC_START (R183). -/
def execEcbDecStart (s : State) : Host.Outcome State Fault Refusal := .next (startCommand .ecb .decrypt s)

/-- CTR_ENC_START (R184). -/
def execCtrEncStart (s : State) : Host.Outcome State Fault Refusal := .next (startCommand .ctr .encrypt s)

/-- CTR_DEC_START (R194). -/
def execCtrDecStart (s : State) : Host.Outcome State Fault Refusal := .next (startCommand .ctr .decrypt s)

/-- The output block of MSG_BLOCK (R185): in ECB the transformed DIN (R188), in CTR DIN XOR the keystream block of
the counter, always forward (R187). -/
def msgOutput (s : State) : Word :=
  match s.status.mode with
  | .ecb => transformBlock s.din (subkeys s) (s.status.dir == .encrypt)
  | .ctr => s.din ^^^ transformBlock s.ctr (subkeys s) true

/-- The counter moves in CTR mode only (R185, R39). -/
def msgCounter (s : State) : State :=
  match s.status.mode with
  | .ecb => s
  | .ctr => advanceCtr s

/-- The effect of MSG_BLOCK once every check has passed (R185). -/
def msgBlockEffect (s : State) : State :=
  putResult (msgOutput s) (putTag s.dinTag (msgCounter (noteDinRead s)))

/-- MSG_BLOCK (R185, R247): DIN_TAG is read from the TAG_RANGE check on (log 15). -/
def execMsgBlock (s : State) : Host.Outcome State Fault Refusal :=
  .next (unlessErr (guarded [.inMessage, .resultRead]
    (fun s => guarded [.tagInRange, .noTailYet, .counterLeft] msgBlockEffect (noteTagRead s))) s)

/-- MSG_END (R193, R247). -/
def execMsgEnd (s : State) : Host.Outcome State Fault Refusal :=
  .next (unlessErr (guarded [.inMessage] endMsg) s)

end Sys2Proof.Machine
end

