-- ==== Sys2Proof/Machine/Dispatch.lean ====
section
/-! DEFINITION. The dispatch of a decoded command to its rule (45_control.md R226). -/

namespace Sys2Proof.Machine

def exec (i : Instr) (s : State) : Host.Outcome State Fault Refusal :=
  match i with
  | .nop => Sys2Proof.Machine.execNop s
  | .loadKey => Sys2Proof.Machine.execLoadKey s
  | .encBlock => Sys2Proof.Machine.execEncBlock s
  | .decBlock => Sys2Proof.Machine.execDecBlock s
  | .round k => Sys2Proof.Machine.execRound k s
  | .ecbEncStart => Sys2Proof.Machine.execEcbEncStart s
  | .ecbDecStart => Sys2Proof.Machine.execEcbDecStart s
  | .ctrEncStart => Sys2Proof.Machine.execCtrEncStart s
  | .ctrDecStart => Sys2Proof.Machine.execCtrDecStart s
  | .msgBlock => Sys2Proof.Machine.execMsgBlock s
  | .msgEnd => Sys2Proof.Machine.execMsgEnd s
  | .clearErr => Sys2Proof.Machine.execClearErr s

end Sys2Proof.Machine
end

