-- ==== Sys2Proof/Machine/HostAccess.lean ====
section
/-! DEFINITION. The host's accesses (45_control.md R222, R223; 20_memory.md R53, R58, R59, R66) and reset
(70_reset_and_hazards.md R270). -/

namespace Sys2Proof.Machine

/-- A write to a register that stores while BUSY = 0 and is refused with BUSY (9) while BUSY = 1 (R222, R66). -/
def unlessBusy (store : State → State) (s : State) : State :=
  if s.status.busy then raiseErr .busy s else store s

/-- `HostWrite(idx, v)` (R222). -/
def hostWrite (idx : RegIndex) (v : Word) (s : State) : State :=
  match regOfIndex idx with
  | some .cmd => unlessBusy (latch v) s
  | some .din => unlessBusy (storeDin v) s
  | some .dinTag => unlessBusy (storeDinTag v) s
  | some .status => raiseErr .access s
  | some .dout => raiseErr .access s
  | some .doutTag => raiseErr .access s
  | some .ctr => raiseErr .access s
  | some .key => raiseErr .access s
  | some (.sk _) => raiseErr .access s
  | none => raiseErr .access s

/-- A read of a register whose value is UNSPECIFIED while BUSY = 1 (R58, R223, U5): a free value (log 3), and the
run is marked; otherwise `value`, with the run marked for `u` if `unspec` holds (U2 to U4, log 2). -/
def readResult (value : Word) (u : UnspecUse) (unspec : Bool) (s : State) : Word × State :=
  if s.status.busy then (Config.freeWord s.freeCtr, takeFree (noteUnspec .readBusy true s))
  else (value, noteUnspec u unspec s)

/-- A read of DOUT (R223, R59): DOUT_PENDING <- 0. While BUSY = 1 it is left UNSPECIFIED: a free bit, within the
invariant that a pending result is a valid one (R47 (e), log 3). -/
def readDout (s : State) : Word × State :=
  let b := s.status.busy && Config.freeBit s.freeCtr && s.status.doutValid
  let r := readResult s.dout .readNoResult (!s.status.doutValid) s
  (r.1, setPending b r.2)

/-- `HostRead(idx)` (R223): the value returned and the state after. -/
def hostRead (idx : RegIndex) (s : State) : Word × State :=
  match regOfIndex idx with
  | some .cmd => (0#64, s)
  | some .status => (s.status.word, s)
  | some .din => (s.din, noteUnspec .readUnwritten s.dinUnwritten s)
  | some .dinTag => (s.dinTag.setWidth 64, noteUnspec .readUnwritten s.dinTagUnwritten s)
  | some .dout => readDout s
  | some .doutTag => readResult (s.doutTag.setWidth 64) .readUnwritten s.doutTagUnwritten s
  | some .ctr => readResult s.ctr .readBusy false s
  | some .key => readResult s.key .readNoKey (!s.status.keyValid) s
  | some (.sk i) => readResult (s.sk[i.toNat]'i.isLt) .readNoKey (!s.status.keyValid) s
  | none => (0#64, raiseErr .access s)

/-- RST (R270): every register as right after reset, a pending command discarded. The parameters, the schedule and
the model's records of the run stay (logs 6 and 11). -/
def resetEvent (s : State) : State :=
  { State.reset with
    cfg := s.cfg, schedule := s.schedule, reads := s.reads, errLog := s.errLog,
    runFault := s.runFault, freeCtr := s.freeCtr }

end Sys2Proof.Machine
end

