-- ==== Sys2Proof/Machine/Events.lean ====
section
/-! DEFINITION. The core step (45_control.md R225), the events of the total order (20_memory.md R61), and which comes
next (log 5). -/

namespace Sys2Proof.Machine

/-- An outcome's next state, changed by `f`; a fault or a refusal stays. -/
def thenState (f : State → State) : Host.Outcome State Fault Refusal → Host.Outcome State Fault Refusal
  | .next t => .next (f t)
  | .fault e => .fault e
  | .refused r => .refused r

/-- CoreStep (R225): enabled only when PENDING is not empty; the pending word is decoded and performed, refused or
ignored, and the latch is freed. Where it is not enabled the core does nothing (R17). -/
def coreStep (s : State) : Host.Outcome State Fault Refusal :=
  match s.pending with
  | none => .next s
  | some v =>
    match decode v with
    | .error _ => .next (freeLatch (illegalWord s))
    | .ok i => thenState freeLatch (exec i s)

/-- A host read: the host keeps the value returned. -/
def readEvent (idx : RegIndex) (s : State) : State := logRead idx (hostRead idx s).1 (hostRead idx s).2

/-- `WAIT` (R81) where, as long as a command is pending, `polls` of its reads come before the core's turn (log 13). With
BUSY = 0 it is one read, whatever `polls`. -/
def waitEvents : Nat → List Event
  | 0 => [.core, .wait 0]
  | n + 1 => [.wait n]

/-- WAIT's loop (R81): RD STATUS; repeat while bit 8 (BUSY) of the value read is 1. -/
def waitEvent (polls : Nat) (s : State) : State :=
  let t := readEvent (indexOfReg .status) s
  if busyBit (hostRead (indexOfReg .status) s).1 then listFirst (waitEvents polls) t else t

/-- One event (R61, R270). -/
def applyEvent (e : Event) (s : State) : Host.Outcome State Fault Refusal :=
  match e with
  | .write idx v => .next (hostWrite idx v s)
  | .read idx => .next (readEvent idx s)
  | .core => coreStep s
  | .rst => .next (resetEvent s)
  | .wait polls => .next (waitEvent polls s)

/-- The next event of the schedule takes place. With none listed the core takes its step, so that a pending command
is performed in the end (R282's fairness), and an idle core stays as it is (R17; log 5). -/
def nextEvent (s : State) : Host.Outcome State Fault Refusal :=
  match s.schedule with
  | [] => coreStep s
  | e :: es => applyEvent e { s with schedule := es }

/-- `v` latched as the pending command, and the core's turn next: the state of the machine right after the host's
accepted write of `v` to CMD (R222). -/
def withPending (v : Word) (s : State) : State :=
  listFirst [.core] (latch v s)

/-- `n` steps, stopping at the first that is no next state. -/
def nextEvents : Nat → State → Host.Outcome State Fault Refusal
  | 0, s => .next s
  | n + 1, s =>
    match nextEvent s with
    | .next t => nextEvents n t
    | .fault e => .fault e
    | .refused r => .refused r

end Sys2Proof.Machine
end

