-- ==== Sys2Proof/Machine/Step.lean ====
section
/-! DEFINITION. The step of the machine: one event of the total order of host accesses, core steps and resets
(20_memory.md R61). The core has no program counter and fetches nothing (10_state.md R22, 20_memory.md R64): a
command comes to run by the host's write of CMD (log 5). -/

namespace Sys2Proof.Machine

/-- One step. -/
def step (s : State) : Host.Outcome State Fault Refusal := nextEvent s

/-- `s` with the command word latched and the core's turn next (log 5): `step` then performs exactly that word. -/
def State.withFetchWord (s : State) (nbits w : Nat) : State := withPending (tableWord nbits w) s

end Sys2Proof.Machine
end

