-- ==== Sys2Proof/Machine/Framing.lean ====
section
/-! DEFINITION. The framing contract of the host (44_modes.md R200 to R205) and its byte order (20_memory.md R55,
R56). The core does none of this (R5): these are functions of the host, beside the machine. -/

namespace Sys2Proof.Machine

/-- Eight bytes as a block, big-endian (R55): byte j in bits [63-8j : 56-8j]; missing bytes are zero, which is the
right padding of R200. -/
def packBytes (bs : List Byte) : Word :=
  (bs.getD 0 0#8 ++ bs.getD 1 0#8 ++ bs.getD 2 0#8 ++ bs.getD 3 0#8 ++ bs.getD 4 0#8 ++ bs.getD 5 0#8
    ++ bs.getD 6 0#8 ++ bs.getD 7 0#8).cast rfl

/-- A block's bytes in the same order (R55, R56). -/
def unpackBytes (w : Word) : List Byte :=
  [w.extractLsb' 56 8, w.extractLsb' 48 8, w.extractLsb' 40 8, w.extractLsb' 32 8, w.extractLsb' 24 8,
    w.extractLsb' 16 8, w.extractLsb' 8 8, w.extractLsb' 0 8]

/-- `frame(bytes)` (R200): whole 8-byte chunks with tag 8, then the remaining 0 to 7 bytes, right-padded with zero
bytes, with their number as the tag (0 bytes: the sentinel block). -/
def frame : List Byte → List (Word × Tag)
  | b0 :: b1 :: b2 :: b3 :: b4 :: b5 :: b6 :: b7 :: rest =>
    (packBytes [b0, b1, b2, b3, b4, b5, b6, b7], 8#4) :: frame rest
  | short => [(packBytes short, BitVec.ofNat 4 short.length)]

/-- `unframe(message)` (R201), with the fail-fast check of R203 on every block's tag (log 12). -/
def unframe : List (Word × Tag) → Except Fault (List Byte)
  | [] => .ok []
  | [(w, t)] => if t ≤ 8#4 then .ok ((unpackBytes w).take t.toNat) else .error .framingTag
  | (w, t) :: rest =>
    if t ≤ 8#4 then
      match unframe rest with
      | .ok bs => .ok (unpackBytes w ++ bs)
      | .error e => .error e
    else .error .framingTag

/-- The last block with its count written into bits [7:0], every block with DIN_TAG = 8 (R204 (b)). -/
def embedCount : List (Word × Tag) → List (Word × Tag)
  | [] => []
  | [(w, t)] => [((w.extractLsb' 8 56 ++ t.setWidth 8).cast rfl, 8#4)]
  | (w, _) :: rest => (w, 8#4) :: embedCount rest

/-- `unframe` under `EMBEDDED_LOW_BYTE` (R204 (b)): the count is bits [7:0] of the last block, and more than 7 is a
failure. The tags are not used. -/
def unframeEmbedded : List (Word × Tag) → Except Fault (List Byte)
  | [] => .ok []
  | [(w, _)] =>
    if w.extractLsb' 0 8 ≤ 7#8 then .ok ((unpackBytes w).take (w.extractLsb' 0 8).toNat)
    else .error .framingCount
  | (w, _) :: rest =>
    match unframeEmbedded rest with
    | .ok bs => .ok (unpackBytes w ++ bs)
    | .error e => .error e

/-- What the host hands the core for a byte sequence: blocks with the DIN_TAG to write, per `TAG_REPR` (R204). -/
def frameFor (repr : TagRepr) (bs : List Byte) : List (Word × Tag) :=
  match repr with
  | .sideband => frame bs
  | .embeddedLowByte => embedCount (frame bs)

/-- What the host makes of the blocks it has read back, per `TAG_REPR` (R204). -/
def unframeFor (repr : TagRepr) (bs : List (Word × Tag)) : Except Fault (List Byte) :=
  match repr with
  | .sideband => unframe bs
  | .embeddedLowByte => unframeEmbedded bs

/-- The ciphertext artifact (R205, R56): all 8 bytes of every output block, in block order, without tags. -/
def artifact (blocks : List (Word × Tag)) : List Byte := blocks.flatMap fun b => unpackBytes b.1

end Sys2Proof.Machine
end

