-- ==== Sys2Proof/Machine/Script.lean ====
section
/-! DEFINITION. The host's script lines and pseudo-operations as events (30_encoding.md R80, R81), and the message
protocol of 44_modes.md R191 and R192. WAIT itself is `waitEvents` and `waitEvent` of Machine/Events.lean. -/

namespace Sys2Proof.Machine

/-- `CMD <command>` (R80). -/
def cmdEvents (i : Instr) : List Event := [.write (indexOfReg .cmd) (encode i)]

/-- `DO <command>` (R81). -/
def doEvents (i : Instr) (polls : Nat) : List Event := cmdEvents i ++ waitEvents polls

/-- `SETKEY <k>` (R81). -/
def setKeyEvents (k : Word) (polls : Nat) : List Event := .write (indexOfReg .din) k :: doEvents .loadKey polls

/-- `ENCB <v>`, `DECB <v>` and `RND <r>, <i>` (R81): the operand, the command, the read of DOUT. -/
def operateEvents (i : Instr) (v : Word) (polls : Nat) : List Event :=
  .write (indexOfReg .din) v :: doEvents i polls ++ [.read (indexOfReg .dout)]

/-- `FEED <v>, <t>` (R81). -/
def feedEvents (v t : Word) (polls : Nat) : List Event :=
  [.write (indexOfReg .din) v, .write (indexOfReg .dinTag) t] ++ doEvents .msgBlock polls
    ++ [.read (indexOfReg .dout), .read (indexOfReg .doutTag)]

/-- The events of one line (R80, R81). `CHECK` reads STATUS; what it asserts of the value is `checkPasses`. -/
def expandOp : ScriptOp → List Event
  | .wr idx v => [.write idx v]
  | .rd idx => [.read idx]
  | .cmd i => cmdEvents i
  | .wait polls => waitEvents polls
  | .perform i polls => doEvents i polls
  | .setKey k polls => setKeyEvents k polls
  | .encb v polls => operateEvents .encBlock v polls
  | .decb v polls => operateEvents .decBlock v polls
  | .rnd r i polls => operateEvents (.round i) r polls
  | .feed v t polls => feedEvents v t polls
  | .check => [.read (indexOfReg .status)]

/-- The events of a script. -/
def expandScript (ops : List ScriptOp) : List Event := ops.flatMap expandOp

/-- What `CHECK` asserts of the value read (R81): bits [15:12] are 0. -/
def checkPasses (statusWord : Word) : Bool := statusWord.extractLsb' 12 4 == 0#4

/-- The protocol of R191 and R192 for a message: the *_START command, each block fed and its result read, MSG_END. -/
def messageEvents (start : Instr) (blocks : List (Word × Tag)) (polls : Nat) : List Event :=
  doEvents start polls ++ blocks.flatMap (fun b => feedEvents b.1 (b.2.setWidth 64) polls) ++ doEvents .msgEnd polls

/-- The values read from one register, in order. -/
def readsOf (r : Reg) (reads : List (RegIndex × Word)) : List Word :=
  reads.filterMap fun x => if x.1 = indexOfReg r then some x.2 else none

end Sys2Proof.Machine
end

