-- ==== Sys2Proof/Safety.lean ====
section
/-! DEFINITION. What counts as a safe state and a safe run, in the terms the statements use: the invariants of
10_state.md R47, and a run that has used no UNSPECIFIED value (R44, 93_implementation_defined.md). -/

namespace Sys2Proof.Machine

/-- The invariants of R47, but for (c), which speaks of a message's history: (a), (b), (d), (e), (g); (f) holds of
every state, since no reserved bit is stored. -/
structure State.Inv (s : State) : Prop where
  /-- (a) MSG_ACTIVE = 1 implies KEY_VALID = 1 -/
  activeKey : s.status.msgActive = true → s.status.keyValid = true
  /-- (b) bits [63:48] of every SK[i] are 0 -/
  skHigh : ∀ i : Fin 16, s.sk[i].extractLsb' 48 16 = 0#16
  /-- (d) BUSY = 1 if and only if PENDING is non-empty -/
  busyPending : s.status.busy = s.pending.isSome
  /-- (e) DOUT_PENDING = 1 implies DOUT_VALID = 1 -/
  pendingValid : s.status.doutPending = true → s.status.doutValid = true
  /-- (g) ERR is not 0 implies MSG_ACTIVE = 0 -/
  errIdle : s.status.err ≠ none → s.status.msgActive = false

/-- The run has used no UNSPECIFIED value so far: no claim of the spec is void (93_implementation_defined.md). -/
def State.cleanRun (s : State) : Prop := s.runFault = none

/-- Two states that agree in everything the spec fixes: they may differ only in what DIN, DIN_TAG and DOUT_TAG hold while
unwritten (R44), what DOUT holds while DOUT_VALID = 0 (R29) and what KEY and SK hold while KEY_VALID = 0 (R40, R41). -/
structure State.SameDefined (s s' : State) : Prop where
  others : s' = { s with din := s'.din, dinTag := s'.dinTag, doutTag := s'.doutTag, dout := s'.dout,
                         key := s'.key, sk := s'.sk }
  din : s.dinUnwritten = false → s'.din = s.din
  dinTag : s.dinTagUnwritten = false → s'.dinTag = s.dinTag
  doutTag : s.doutTagUnwritten = false → s'.doutTag = s.doutTag
  dout : s.status.doutValid = true → s'.dout = s.dout
  key : s.status.keyValid = true → s'.key = s.key ∧ s'.sk = s.sk

/-- The state of an outcome that has one. -/
def nextOf : Host.Outcome State Fault Refusal → Option State
  | .next t => some t
  | .fault _ => none
  | .refused _ => none

end Sys2Proof.Machine
end

