-- ==== Sys2Proof/Certificates/Slice0/Obligations.lean ====
section
/-! DEFINITION. The statements for the provers. Each docstring says which rule of spec/ it formalises. "The run mark" is
the model's own field `runFault` (logs 1 to 3): where a statement speaks of it, that clause is the model's. -/

open Sys2Proof Sys2Proof.Machine

/-! ## Encoding -/

/-- R70 to R75, R82: a word decodes to a command exactly if it is that command's word. So decoding inverts encoding for
every command and every SKSEL, and no two words are one command. -/
def Obligations.DecodeInvertsEncodeBothWays : Prop :=
  ∀ (v : Word) (i : Instr), decode v = .ok i ↔ v = encode i

/-- R77, R82: exactly these 27 words decode to a command. -/
def Obligations.LegalWordsAreThe27Listed : Prop :=
  ∀ v : Word, (∃ i, decode v = .ok i) ↔
    v ∈ [0x000#64, 0x001#64, 0x002#64, 0x003#64, 0x005#64, 0x006#64, 0x007#64, 0x008#64, 0x009#64, 0x00A#64, 0x00B#64]
      ++ [0x004#64, 0x104#64, 0x204#64, 0x304#64, 0x404#64, 0x504#64, 0x604#64, 0x704#64]
      ++ [0x804#64, 0x904#64, 0xA04#64, 0xB04#64, 0xC04#64, 0xD04#64, 0xE04#64, 0xF04#64]

/-- R82 and 95_test_vectors.md section 2.7: words written out from the encoding decode to what they stand for. -/
def Obligations.SampleWordsDecode : Prop :=
  decode 0x0000000000000000#64 = .ok .nop ∧ decode 0x0000000000000001#64 = .ok .loadKey ∧
  decode 0x0000000000000003#64 = .ok .decBlock ∧ decode 0x0000000000000F04#64 = .ok (.round 15#4) ∧
  decode 0x0000000000000008#64 = .ok .ctrDecStart ∧ decode 0x0000000000000009#64 = .ok .msgBlock ∧
  decode 0x000000000000000B#64 = .ok .clearErr ∧ decode 0x000000000000000C#64 = .error .reservedOpcode ∧
  decode 0x0000000000000105#64 = .error .skselOutsideRound ∧ decode 0x0000000100000001#64 = .error .reservedBits

/-- R73, R74, R75 (with the abort of R244): a word with a reserved bit set, a reserved OP, or SKSEL not 0 outside ROUND
records ILLEGAL and has no other effect. -/
def Obligations.IllegalWordRecordsIllegalOnly : Prop :=
  ∀ (s : State) (v : Word) (es : List Event),
    s.schedule = .core :: es → s.pending = some v → s.status.err = none →
    (v.extractLsb' 12 52 ≠ 0#52 ∨ 0x0C#8 ≤ v.extractLsb' 0 8 ∨
      (v.extractLsb' 0 8 ≠ 0x04#8 ∧ v.extractLsb' 8 4 ≠ 0#4)) →
    step s = .next { s with
      schedule := es, pending := none, errLog := s.errLog ++ [.illegal],
      status := { s.status with busy := false, msgActive := false, err := some .illegal } } ∧
    ErrCode.illegal.code = 1#4

/-- R20, R53: every index selects the register the register map gives it, and 0x08..0x0F and 0x20..0xFF select none. -/
def Obligations.RegisterMap : Prop :=
  (∀ (idx : RegIndex) (r : Reg), regOfIndex idx = some r ↔ idx = indexOfReg r) ∧
  (∀ idx : RegIndex, regOfIndex idx = none ↔ (0x08#8 ≤ idx ∧ idx ≤ 0x0F#8) ∨ 0x20#8 ≤ idx) ∧
  (∀ i : BitVec 4, (indexOfReg (.sk i)).toNat = 0x10 + i.toNat)

/-! ## Reset, invariants, the step -/

/-- R270: RST at any time, a command pending or not. What it leaves in the registers the spec calls UNSPECIFIED is not
stated. -/
def Obligations.ResetEventValues : Prop :=
  ∀ (s : State) (es : List Event), s.schedule = .rst :: es →
    ∃ t, step s = .next t ∧ t.status.word = 0#64 ∧ t.status = Status.reset ∧ t.pending = none ∧ t.ctr = 0#64 ∧
      t.dinUnwritten = true ∧ t.dinTagUnwritten = true ∧ t.doutTagUnwritten = true

/-- R45: the reset value summary, of the state right after reset. -/
def Obligations.ResetStateValues : Prop :=
  State.reset.status.word = 0#64 ∧ State.reset.pending = none ∧ State.reset.ctr = 0#64 ∧
  State.reset.dinUnwritten = true ∧ State.reset.dinTagUnwritten = true ∧ State.reset.doutTagUnwritten = true ∧
  State.reset.status.doutValid = false ∧ State.reset.status.keyValid = false

/-- R47: the invariants hold right after reset. -/
def Obligations.InvHoldsAtReset : Prop := State.reset.Inv

/-- R47: every step keeps the invariants (a), (b), (d), (e) and (g). -/
def Obligations.InvKeptByEveryStep : Prop :=
  ∀ s t : State, s.Inv → step s = .next t → t.Inv

/-- R225 ("Every command therefore ends in exactly one of three ways"), R227, R120: no step ever stops, and none changes
the parameters of the instance. -/
def Obligations.EveryStepAnswersNextAndKeepsParameters : Prop :=
  ∀ s : State, ∃ t, step s = .next t ∧ t.cfg = s.cfg

/-- R225: when the core's turn comes with a word pending that decodes to `i`, the step is `exec i`, and then the latch is
freed. That the core's turn comes where the schedule lists it, and by itself when no event is listed, is the model's
choice (log 5). -/
def Obligations.CoreStepRunsDecodedCommand : Prop :=
  ∀ (s : State) (v : Word) (i : Instr) (es : List Event),
    (s.schedule = .core :: es ∨ (s.schedule = [] ∧ es = [])) → s.pending = some v → decode v = .ok i →
    ∃ t, exec i { s with schedule := es } = .next t ∧
      step s = .next { t with pending := none, status := { t.status with busy := false } }

/-- The same for a word the host has just written: the model's `withFetchWord` (log 5). -/
def Obligations.FetchWordRunsNext : Prop :=
  ∀ (s : State) (i : Instr),
    ∃ t, exec i { s with pending := some (encode i), status := { s.status with busy := true } } = .next t ∧
      step (s.withFetchWord 64 (encode i).toNat) =
        .next { t with pending := none, status := { t.status with busy := false } }

/-- R24, R34, R240: bit by bit, what the 64-bit STATUS word holds. -/
def Obligations.StatusWordLayout : Prop :=
  ∀ st : Status,
    st.word.getLsbD 0 = st.keyValid ∧ st.word.getLsbD 1 = st.msgActive ∧
    st.word.getLsbD 2 = decide (st.mode = .ctr) ∧ st.word.getLsbD 3 = decide (st.dir = .decrypt) ∧
    st.word.getLsbD 4 = st.doutValid ∧ st.word.getLsbD 5 = st.doutPending ∧ st.word.getLsbD 6 = st.tailSeen ∧
    st.word.getLsbD 7 = st.ctrExh ∧ st.word.getLsbD 8 = st.busy ∧ st.word.extractLsb' 9 3 = 0#3 ∧
    st.word.extractLsb' 12 4 = st.errField ∧ st.word.extractLsb' 16 48 = 0#48 ∧
    (st.err = none ↔ st.errField = 0#4) ∧ st.errField ≤ 9#4

/-! ## Errors -/

/-- R244: `raise Err(e)` keeps the first error, aborts an active message, and changes nothing else (the log beside the
hardware state takes the code). -/
def Obligations.RaiseErrRecordsAndAborts : Prop :=
  ∀ (s : State) (e : ErrCode),
    (s.status.err = none → raiseErr e s =
      { s with errLog := s.errLog ++ [e], status := { s.status with err := some e, msgActive := false } }) ∧
    (s.status.err ≠ none → raiseErr e s =
      { s with errLog := s.errLog ++ [e], status := { s.status with msgActive := false } })

/-- R246: while ERR is not 0 every pending word but NOP's and CLEAR_ERR's is ignored: nothing changes but the latch. -/
def Obligations.StickyErrIgnoresCommands : Prop :=
  ∀ (s : State) (v : Word) (es : List Event),
    s.schedule = .core :: es → s.pending = some v → s.status.err ≠ none → v ≠ encode .nop → v ≠ encode .clearErr →
    step s = .next { s with schedule := es, pending := none, status := { s.status with busy := false } }

/-- R245: a command that records an error does nothing else: no data register, no other STATUS field, no counter. (The
run mark may be set where DIN_TAG was read unwritten: log 15.) -/
def Obligations.RefusedCommandIsPrecise : Prop :=
  ∀ (i : Instr) (s t : State), exec i s = .next t → t.errLog ≠ s.errLog →
    ∃ e, s.status.err = none ∧ t =
      { s with
        errLog := s.errLog ++ [e], runFault := t.runFault,
        status := { s.status with err := some e, msgActive := false } }

/-- R34, R244, R246: a recorded error stays until CLEAR_ERR is performed or RST; nothing turns it into another code. -/
def Obligations.FirstErrorKeptUntilCleared : Prop :=
  ∀ (s t : State) (e : ErrCode), s.status.err = some e → step s = .next t →
    t.status.err = some e ∨
      (t.status.err = none ∧ ((∃ es, s.schedule = .rst :: es) ∨ s.pending = some (encode .clearErr)))

/-- R244, R34: a step that raises an error leaves no message active and ERR not 0, and the log grows by that one code. -/
def Obligations.RaisedErrorAbortsMessage : Prop :=
  ∀ s t : State, step s = .next t → t.errLog ≠ s.errLog →
    (∃ e, t.errLog = s.errLog ++ [e]) ∧ t.status.msgActive = false ∧ t.status.err ≠ none

/-! ## Host accesses -/

/-- R222: `HostWrite(idx, v)`, every index, BUSY or not, whatever ERR holds. -/
def Obligations.HostWriteEffects : Prop :=
  ErrCode.busy.code = 9#4 ∧ ErrCode.access.code = 7#4 ∧
  ∀ (s : State) (idx : RegIndex) (v : Word) (es : List Event), s.schedule = .write idx v :: es →
    ((idx = 0x00#8 ∨ idx = 0x02#8 ∨ idx = 0x03#8) → s.status.busy = true →
      step s = .next (raiseErr .busy { s with schedule := es })) ∧
    (idx = 0x00#8 → s.status.busy = false →
      step s = .next { s with schedule := es, pending := some v, status := { s.status with busy := true } }) ∧
    (idx = 0x02#8 → s.status.busy = false →
      step s = .next { s with schedule := es, din := v, dinUnwritten := false }) ∧
    (idx = 0x03#8 → s.status.busy = false →
      step s = .next { s with schedule := es, dinTag := v.setWidth 4, dinTagUnwritten := false }) ∧
    (idx ≠ 0x00#8 → idx ≠ 0x02#8 → idx ≠ 0x03#8 →
      step s = .next (raiseErr .access { s with schedule := es }))

/-- R66: while BUSY = 1 and the command stays pending, no event changes the operands it will read or the word itself. -/
def Obligations.OperandsStableWhileBusy : Prop :=
  ∀ s t : State, step s = .next t → s.status.busy = true → t.status.busy = true → s.pending ≠ none →
    t.din = s.din ∧ t.dinTag = s.dinTag ∧ t.pending = s.pending

/-- R223: the value each register returns and all that changes: CMD, STATUS, DIN and DIN_TAG at any time, the others with
BUSY = 0. A value the spec calls UNSPECIFIED sets the run mark, and the value returned is then the model's choice (log
2). -/
def Obligations.HostReadEffects : Prop :=
  ∀ (s : State) (idx : RegIndex) (es : List Event), s.schedule = .read idx :: es →
    let mark (u : UnspecUse) (c : Bool) := s.runFault.or (if c then some u else none)
    let got (w : Word) : State := { s with schedule := es, reads := s.reads ++ [(idx, w)] }
    (idx = 0x00#8 → step s = .next (got 0#64)) ∧
    (idx = 0x01#8 → step s = .next (got s.status.word)) ∧
    (idx = 0x02#8 → step s = .next { got s.din with runFault := mark .readUnwritten s.dinUnwritten }) ∧
    (idx = 0x03#8 → step s = .next
      { got (s.dinTag.setWidth 64) with runFault := mark .readUnwritten s.dinTagUnwritten }) ∧
    (s.status.busy = false →
      (idx = 0x04#8 → step s = .next
        { got s.dout with
          runFault := mark .readNoResult (!s.status.doutValid), status := { s.status with doutPending := false } }) ∧
      (idx = 0x05#8 → step s = .next
        { got (s.doutTag.setWidth 64) with runFault := mark .readUnwritten s.doutTagUnwritten }) ∧
      (idx = 0x06#8 → step s = .next (got s.ctr)) ∧
      (idx = 0x07#8 → step s = .next { got s.key with runFault := mark .readNoKey (!s.status.keyValid) }) ∧
      (∀ i : Fin 16, idx = 0x10#8 + BitVec.ofNat 8 i.val → step s = .next
        { got s.sk[i] with runFault := mark .readNoKey (!s.status.keyValid) }))

/-- R58, R223 with BUSY = 1: STATUS reads with BUSY = 1; a read of DOUT, DOUT_TAG, CTR, KEY or SK[i] returns some value,
sets the run mark, and changes no register, but that a read of DOUT leaves DOUT_PENDING at some value (never 1 while
DOUT_VALID = 0: R47 (e), log 3). -/
def Obligations.HostReadWhileBusy : Prop :=
  ∀ (s : State) (idx : RegIndex) (es : List Event), s.schedule = .read idx :: es → s.status.busy = true →
    (idx = 0x01#8 → ∃ w : Word, w.getLsbD 8 = true ∧
      step s = .next { s with schedule := es, reads := s.reads ++ [(idx, w)] }) ∧
    ((0x04#8 ≤ idx ∧ idx ≤ 0x07#8) ∨ (0x10#8 ≤ idx ∧ idx ≤ 0x1F#8) →
      ∃ (w : Word) (b : Bool) (u : UnspecUse),
        (idx ≠ 0x04#8 → b = s.status.doutPending) ∧ (idx = 0x04#8 → b = true → s.status.doutValid = true) ∧
        (s.runFault = none → u = .readBusy) ∧
        step s = .next
          { s with
            schedule := es, reads := s.reads ++ [(idx, w)], runFault := some u, freeCtr := s.freeCtr + 1,
            status := { s.status with doutPending := b } })

/-- R53: a read of a reserved index returns 0 and records ACCESS; a write to a reserved index or a read-only register
stores nothing and records ACCESS; a read of CMD returns 0 without error. -/
def Obligations.ReservedAndReadOnlyAccesses : Prop :=
  ErrCode.access.code = 7#4 ∧
  ∀ (s : State) (idx : RegIndex) (v : Word) (es : List Event),
    (s.schedule = .read idx :: es → ((0x08#8 ≤ idx ∧ idx ≤ 0x0F#8) ∨ 0x20#8 ≤ idx) →
      step s = .next (raiseErr .access { s with schedule := es, reads := s.reads ++ [(idx, 0#64)] })) ∧
    (s.schedule = .write idx v :: es → (idx = 0x01#8 ∨ 0x04#8 ≤ idx) →
      step s = .next (raiseErr .access { s with schedule := es })) ∧
    (s.schedule = .read idx :: es → idx = 0x00#8 →
      step s = .next { s with schedule := es, reads := s.reads ++ [(idx, 0#64)] })

/-! ## The control commands and LOAD_KEY -/

/-- R220, R221: NOP does nothing and CLEAR_ERR clears ERR and nothing else, whatever ERR holds; and their words. -/
def Obligations.ControlCommands : Prop :=
  decode 0x0000000000000000#64 = .ok .nop ∧ decode 0x000000000000000B#64 = .ok .clearErr ∧
  ∀ s : State, exec .nop s = .next s ∧ exec .clearErr s = .next { s with status := { s.status with err := none } }

/-- R125: LOAD_KEY stores the key and all 16 subkeys at once and sets KEY_VALID; nothing else changes (but for the run
mark of an unwritten DIN, log 1). While a message is active it is refused with STATE. -/
def Obligations.LoadKeyEffectAndError : Prop :=
  ∀ s : State, s.status.err = none →
    (s.status.msgActive = false →
      ∃ t, exec .loadKey s = .next t ∧
        (∀ i : Fin 16, t.sk[i] =
          ((schedule s.cfg.keySchedule (keyIn s.cfg.keyInputMask s.din))[i]).setWidth 64) ∧
        t = { s with
          key := keyIn s.cfg.keyInputMask s.din, sk := t.sk, status := { s.status with keyValid := true },
          runFault := s.runFault.or (if s.dinUnwritten then some .operandUnwritten else none) }) ∧
    (s.status.msgActive = true → exec .loadKey s = .next (raiseErr .state s))

/-- R121: subkey i of the simplified schedule is the key rotated left by i and masked to 48 bits; bit j of it is bit
(j - i) mod 64 of the key (the spec marks the second clause as its own inference). -/
def Obligations.SimplifiedSubkeyBits : Prop :=
  ∀ (k : Word) (i : Fin 16),
    ((schedule .simplified k)[i]).setWidth 64 = ((k <<< i.val) ||| (k >>> (64 - i.val))) &&& 0x0000FFFFFFFFFFFF#64 ∧
    ∀ j : Nat, j < 48 → ((schedule .simplified k)[i]).getLsbD j = k.getLsbD ((j + 64 - i.val) % 64)

/-- R122: subkey i of the canonical schedule is PC-2 of the two halves of PC-1's result, each rotated left by the sum of
the shift amounts of rounds 0 to i. -/
def Obligations.CanonicalSubkeysByTotalShift : Prop :=
  ∀ (k : Word) (i : Fin 16),
    let cd : BitVec 56 := permute 56 tablePC1 k
    let n := (tableShifts.take (i.val + 1)).sum
    (schedule .canonical k)[i] =
      permute 48 tablePC2 ((cd.extractLsb' 28 28).rotateLeft n ++ (cd.extractLsb' 0 28).rotateLeft n)

/-- R124: KeyIn keeps the whole value (the default), or its low 56 bits; the two agree where the top byte is zero. -/
def Obligations.KeyInputMaskClearsTopByte : Prop :=
  Config.default.keyInputMask = .none ∧
  ∀ v : Word, keyIn .none v = v ∧
    (∀ j : Nat, (keyIn .low56 v).getLsbD j = (decide (j < 56) && v.getLsbD j)) ∧
    (v.extractLsb' 56 8 = 0#8 → keyIn .low56 v = keyIn .none v)

/-- R122, R123 (b), U17: key bit 48 reaches no subkey of the simplified schedule, and the least significant bit of each key
byte none of the canonical one. -/
def Obligations.UnusedKeyBitsReachNoSubkey : Prop :=
  ∀ k k' : Word,
    ((∀ j : Nat, j ≠ 48 → k.getLsbD j = k'.getLsbD j) → schedule .simplified k = schedule .simplified k') ∧
    ((∀ j : Nat, j % 8 ≠ 0 → k.getLsbD j = k'.getLsbD j) → schedule .canonical k = schedule .canonical k')

/-! ## The round function and the block transformation -/

/-- R104, R141: group g of the expansion takes input positions 4g to 4g+5, 0 read as 32 and 33 as 1. -/
def Obligations.ExpansionGroups : Prop :=
  ∀ (r : Half) (g : Fin 8) (j : Fin 6),
    (expand r).getMsbD (6 * g.val + j.val) = r.getMsbD ((4 * g.val + j.val + 31) % 32)

/-- R143, R106: nibble g of the substitution, group 0 the most significant, is the entry of S-box g+1 in the row that the
outer two bits of the input's group g select and the column that its inner four bits select. -/
def Obligations.SubstitutionNibbles : Prop :=
  ∀ (y : BitVec 48) (g : Fin 8),
    let box := [tableS1, tableS2, tableS3, tableS4, tableS5, tableS6, tableS7, tableS8].getD g.val []
    let row := 2 * (y.getLsbD (47 - 6 * g.val)).toNat + (y.getLsbD (42 - 6 * g.val)).toNat
    let col := (y.extractLsb' (43 - 6 * g.val) 4).toNat
    row < 4 ∧ col < 16 ∧ ((substitute y).extractLsb' (28 - 4 * g.val) 4).toNat = (box.getD row []).getD col 0

/-- R145: complementing both inputs of F leaves it unchanged. -/
def Obligations.RoundFunctionComplement : Prop :=
  ∀ (r : Half) (k : Subkey), feistel (~~~r) (~~~k) = feistel r k

/-- R103: FP and IP are inverse. -/
def Obligations.FinalPermutationInvertsInitial : Prop :=
  ∀ x : Word, permute 64 tableFP (permute 64 tableIP x : Word) = x ∧
    permute 64 tableIP (permute 64 tableFP x : Word) = x

/-- R160, R127, R165: the block transformation is IP, 16 rounds of which round n takes subkey n forward and subkey 15 - n
in the inverse direction, the halves exchanged, FP. -/
def Obligations.TransformBlockRoundsAndKeyOrder : Prop :=
  ∀ (b : Word) (sks : Vector Subkey 16) (forward : Bool) (l r : Nat → Half),
    l 0 = (permute 64 tableIP b).extractLsb' 32 32 → r 0 = (permute 64 tableIP b).extractLsb' 0 32 →
    (∀ n : Fin 16, l (n.val + 1) = r n.val ∧
      r (n.val + 1) = l n.val ^^^ feistel (r n.val) (if forward then sks[n] else sks[15 - n.val])) →
    transformBlock b sks forward = permute 64 tableFP (r 16 ++ l 16)

/-- R170: the inverse transformation undoes the forward one, and conversely, for every block and every subkey set. -/
def Obligations.BlockRoundTrip : Prop :=
  ∀ (b : Word) (sks : Vector Subkey 16),
    transformBlock (transformBlock b sks true) sks false = b ∧
    transformBlock (transformBlock b sks false) sks true = b

/-- R171: with a palindromic subkey sequence the two directions are one function; so for the keys 0 and 2^64 - 1 under the
simplified schedule. -/
def Obligations.PalindromicSubkeysMakeDirectionsEqual : Prop :=
  (∀ (b : Word) (sks : Vector Subkey 16), (∀ n : Fin 16, sks[n] = sks[15 - n.val]) →
    transformBlock b sks true = transformBlock b sks false) ∧
  (∀ b k : Word, k = 0#64 ∨ k = M64 →
    transformBlock b (schedule .simplified k) true = transformBlock b (schedule .simplified k) false)

/-- R172: complementing the block and every subkey complements the result; complementing the key complements the simplified
subkeys. -/
def Obligations.BlockComplementation : Prop :=
  (∀ (b : Word) (sks : Vector Subkey 16) (forward : Bool),
    transformBlock (~~~b) (sks.map fun k => ~~~k) forward = ~~~(transformBlock b sks forward)) ∧
  (∀ k : Word, schedule .simplified (~~~k) = (schedule .simplified k).map fun x => ~~~x)

/-! ## The block commands -/

/-- R146: ROUND i, every SKSEL: DOUT takes the zero-extended F(DIN[31:0], SK[i][47:0]), and nothing else changes but
DOUT_VALID and DOUT_PENDING (and the run mark of an unwritten DIN, log 1); and its errors in their order. -/
def Obligations.RoundCommand : Prop :=
  ∀ (s : State) (i : BitVec 4), s.status.err = none →
    (s.status.msgActive = false → s.status.keyValid = true → s.status.doutPending = false →
      exec (.round i) s = .next
        { s with
          dout := (feistel (s.din.setWidth 32) ((s.sk[i.toNat]'i.isLt).setWidth 48)).setWidth 64,
          status := { s.status with doutValid := true, doutPending := true },
          runFault := s.runFault.or (if s.dinUnwritten then some .operandUnwritten else none) }) ∧
    (s.status.msgActive = true → exec (.round i) s = .next (raiseErr .state s)) ∧
    (s.status.msgActive = false → s.status.keyValid = false → exec (.round i) s = .next (raiseErr .noKey s)) ∧
    (s.status.msgActive = false → s.status.keyValid = true → s.status.doutPending = true →
      exec (.round i) s = .next (raiseErr .unread s))

/-- R167, R168: ENC_BLOCK and DEC_BLOCK transform DIN under SK[0..15], forward and inverse; nothing else changes but
DOUT_VALID and DOUT_PENDING (and the run mark of an unwritten DIN, log 1); and their errors in their order. -/
def Obligations.EncBlockAndDecBlockCommands : Prop :=
  ∀ (s : State) (i : Instr) (forward : Bool),
    (i = .encBlock ∧ forward = true ∨ i = .decBlock ∧ forward = false) → s.status.err = none →
    (s.status.msgActive = false → s.status.keyValid = true → s.status.doutPending = false →
      exec i s = .next
        { s with
          dout := transformBlock s.din (s.sk.map fun r => r.setWidth 48) forward,
          status := { s.status with doutValid := true, doutPending := true },
          runFault := s.runFault.or (if s.dinUnwritten then some .operandUnwritten else none) }) ∧
    (s.status.msgActive = true → exec i s = .next (raiseErr .state s)) ∧
    (s.status.msgActive = false → s.status.keyValid = false → exec i s = .next (raiseErr .noKey s)) ∧
    (s.status.msgActive = false → s.status.keyValid = true → s.status.doutPending = true →
      exec i s = .next (raiseErr .unread s))

/-! ## The sequencer -/

/-- R181, R182, R183, R184, R194: the four *_START commands, with the word, the MODE and the DIR of each; nothing else
changes; their errors in their order; and any other word with the same OP decodes to ILLEGAL. -/
def Obligations.StartCommands : Prop :=
  ∀ (s : State) (i : Instr) (w : Word) (m : Mode) (d : Dir),
    ((i = .ecbEncStart ∧ w = 0x5#64 ∧ m = .ecb ∧ d = .encrypt) ∨
      (i = .ecbDecStart ∧ w = 0x6#64 ∧ m = .ecb ∧ d = .decrypt) ∨
      (i = .ctrEncStart ∧ w = 0x7#64 ∧ m = .ctr ∧ d = .encrypt) ∨
      (i = .ctrDecStart ∧ w = 0x8#64 ∧ m = .ctr ∧ d = .decrypt)) →
    decode w = .ok i ∧ (∀ v : Word, v.extractLsb' 0 8 = w.extractLsb' 0 8 → v ≠ w → ∃ e, decode v = .error e) ∧
    (s.status.err = none →
      (s.status.msgActive = false → s.status.keyValid = true →
        exec i s = .next
          { s with
            ctr := 0#64,
            status := { s.status with msgActive := true, mode := m, dir := d, tailSeen := false, ctrExh := false } }) ∧
      (s.status.msgActive = true → exec i s = .next (raiseErr .state s)) ∧
      (s.status.msgActive = false → s.status.keyValid = false → exec i s = .next (raiseErr .noKey s)))

/-- R185, R186, R187, R188, R189: an accepted MSG_BLOCK, in ECB by the direction, in CTR with the keystream of the counter;
the tag passes through, a tag below 8 sets TAIL_SEEN, the counter 2^64 - 1 sets CTR_EXH; nothing else changes (but for the
run mark of an unwritten operand, log 1). -/
def Obligations.MsgBlockPerformed : Prop :=
  ∀ s : State, s.status.err = none → s.status.msgActive = true → s.status.doutPending = false → s.dinTag ≤ 8#4 →
    s.status.tailSeen = false →
    (s.status.mode = .ecb →
      exec .msgBlock s = .next
        { s with
          dout := transformBlock s.din (subkeys s) (decide (s.status.dir = .encrypt)),
          doutTag := s.dinTag, doutTagUnwritten := false,
          status := { s.status with doutValid := true, doutPending := true, tailSeen := decide (s.dinTag < 8#4) },
          runFault := s.runFault.or
            (if s.dinUnwritten || s.dinTagUnwritten then some .operandUnwritten else none) }) ∧
    (s.status.mode = .ctr → s.status.ctrExh = false →
      exec .msgBlock s = .next
        { s with
          dout := s.din ^^^ transformBlock s.ctr (subkeys s) true, ctr := s.ctr + 1#64,
          doutTag := s.dinTag, doutTagUnwritten := false,
          status := { s.status with
            doutValid := true, doutPending := true, tailSeen := decide (s.dinTag < 8#4),
            ctrExh := decide (s.ctr = 0xFFFFFFFFFFFFFFFF#64) },
          runFault := s.runFault.or
            (if s.dinUnwritten || s.dinTagUnwritten then some .operandUnwritten else none) })

/-- R185, R247: the errors of MSG_BLOCK in their order. (From the TAG_RANGE check on, an unwritten DIN_TAG sets the run
mark: log 15.) -/
def Obligations.MsgBlockRefusals : Prop :=
  ∀ s : State, s.status.err = none →
    let read : State :=
      { s with runFault := s.runFault.or (if s.dinTagUnwritten then some .operandUnwritten else none) }
    (s.status.msgActive = false → exec .msgBlock s = .next (raiseErr .state s)) ∧
    (s.status.msgActive = true → s.status.doutPending = true → exec .msgBlock s = .next (raiseErr .unread s)) ∧
    (s.status.msgActive = true → s.status.doutPending = false → 8#4 < s.dinTag →
      exec .msgBlock s = .next (raiseErr .tagRange read)) ∧
    (s.status.msgActive = true → s.status.doutPending = false → s.dinTag ≤ 8#4 → s.status.tailSeen = true →
      exec .msgBlock s = .next (raiseErr .sequence read)) ∧
    (s.status.msgActive = true → s.status.doutPending = false → s.dinTag ≤ 8#4 → s.status.tailSeen = false →
      s.status.mode = .ctr → s.status.ctrExh = true → exec .msgBlock s = .next (raiseErr .ctrExhausted read))

/-- R193: MSG_END, whose word is 0xA, clears MSG_ACTIVE and nothing else; STATE where no message is active; any other word
with its OP decodes to ILLEGAL. -/
def Obligations.MsgEndCommand : Prop :=
  decode 0x000000000000000A#64 = .ok .msgEnd ∧
  (∀ v : Word, v.extractLsb' 0 8 = 0x0A#8 → v ≠ 0xA#64 → ∃ e, decode v = .error e) ∧
  ∀ s : State, s.status.err = none →
    (s.status.msgActive = true → exec .msgEnd s = .next { s with status := { s.status with msgActive := false } }) ∧
    (s.status.msgActive = false → exec .msgEnd s = .next (raiseErr .state s))

/-- R195: a *_START directly followed by MSG_END is accepted, produces no result, and leaves DOUT, DOUT_TAG, DOUT_VALID and
DOUT_PENDING as they were; it is not the framing of zero bytes, which is one sentinel block. -/
def Obligations.EmptyMessageProducesNothing : Prop :=
  frame [] = [(0#64, 0#4)] ∧
  ∀ (s : State) (i : Instr), i = .ecbEncStart ∨ i = .ecbDecStart ∨ i = .ctrEncStart ∨ i = .ctrDecStart →
    s.status.err = none → s.status.msgActive = false → s.status.keyValid = true →
    ∃ t u, exec i s = .next t ∧ exec .msgEnd t = .next u ∧ u.status.err = none ∧ u.status.msgActive = false ∧
      u.errLog = s.errLog ∧ u.dout = s.dout ∧ u.doutTag = s.doutTag ∧ u.status.doutValid = s.status.doutValid ∧
      u.status.doutPending = s.status.doutPending

/-- R186: after a MSG_BLOCK with a tag below 8, the next MSG_BLOCK of the message, its result read and any legal tag
written, is refused with SEQUENCE, whatever the host feeds. -/
def Obligations.ShortBlockMustBeLast : Prop :=
  ∀ (s t : State) (v w : Word), exec .msgBlock s = .next t → s.status.msgActive = true → t.errLog = s.errLog →
    s.status.err = none → s.dinTag < 8#4 → w.extractLsb' 0 4 ≤ 8#4 →
    t.status.tailSeen = true ∧
      let u := storeDinTag w (storeDin v (setPending false t))
      exec .msgBlock u = .next (raiseErr .sequence u)

/-- R187: the CTR block that uses 2^64 - 1 wraps the counter to 0 and sets CTR_EXH, and the next CTR block of the message is
refused with CTR_EXHAUSTED, whatever the host feeds. -/
def Obligations.CtrBlockAfterLastCounterIsRefused : Prop :=
  ∀ (s t : State) (v w : Word), exec .msgBlock s = .next t → s.status.msgActive = true → t.errLog = s.errLog →
    s.status.err = none → s.status.mode = .ctr → s.ctr = M64 → s.dinTag = 8#4 → w.extractLsb' 0 4 ≤ 8#4 →
    t.ctr = 0#64 ∧ t.status.ctrExh = true ∧
      let u := storeDinTag w (storeDin v (setPending false t))
      exec .msgBlock u = .next (raiseErr .ctrExhausted u)

/-! ## Whole messages, as the host performs them -/

/-- R191: an ECB message of any framed sequence of blocks, performed by the protocol of the rule with any number of polls
per WAIT: the values read are the transformed blocks and their tags, in order, and no error is recorded. Where the core's
turn comes in a WAIT is an argument of it, the model's choice (log 13). -/
def Obligations.EcbMessageOutputs : Prop :=
  ∀ (s : State) (start : Instr) (forward : Bool) (blocks : List (Word × Tag)) (polls : Nat),
    (start = .ecbEncStart ∧ forward = true ∨ start = .ecbDecStart ∧ forward = false) →
    s.schedule = messageEvents start blocks polls → framedMessage blocks = true → s.reads = [] →
    s.status.err = none → s.status.keyValid = true → s.status.msgActive = false → s.status.doutPending = false →
    s.status.busy = false → s.pending = none →
    ∃ t, nextEvents (2 * (polls + 3) + blocks.length * (polls + 7)) s = .next t ∧ t.schedule = [] ∧
      readsOf .dout t.reads = blocks.map (fun b => transformBlock b.1 (subkeys s) forward) ∧
      readsOf .doutTag t.reads = blocks.map (fun b => b.2.setWidth 64) ∧
      t.status.err = none ∧ t.status.msgActive = false ∧ t.key = s.key ∧ t.sk = s.sk ∧
      t.runFault = s.runFault

/-- R192, R194, R47 (c): a CTR message, opened either way: output n is block n XOR the keystream block of the counter value
n, the tags pass through, and CTR ends at the number of blocks. Where the core's turn comes in
a WAIT is an argument of it, the model's choice (log 13). -/
def Obligations.CtrMessageOutputs : Prop :=
  ∀ (s : State) (start : Instr) (blocks : List (Word × Tag)) (polls : Nat),
    (start = .ctrEncStart ∨ start = .ctrDecStart) →
    s.schedule = messageEvents start blocks polls → framedMessage blocks = true → s.reads = [] →
    blocks.length ≤ 2 ^ 64 →
    s.status.err = none → s.status.keyValid = true → s.status.msgActive = false → s.status.doutPending = false →
    s.status.busy = false → s.pending = none →
    ∃ t, nextEvents (2 * (polls + 3) + blocks.length * (polls + 7)) s = .next t ∧ t.schedule = [] ∧
      readsOf .dout t.reads =
        blocks.mapIdx (fun n b => b.1 ^^^ transformBlock (BitVec.ofNat 64 n) (subkeys s) true) ∧
      readsOf .doutTag t.reads = blocks.map (fun b => b.2.setWidth 64) ∧
      t.ctr = BitVec.ofNat 64 blocks.length ∧
      t.status.err = none ∧ t.status.msgActive = false ∧ t.key = s.key ∧ t.sk = s.sk ∧
      t.runFault = s.runFault

/-- R197: performing the inverse message on what a message gave returns the original blocks: ECB decrypt after ECB encrypt,
CTR after CTR. Where the core's turn comes in a WAIT is an argument of it, the model's choice (log 13). -/
def Obligations.MessageRoundTrip : Prop :=
  ∀ (s : State) (first second : Instr) (blocks : List (Word × Tag)) (polls : Nat),
    (first = .ecbEncStart ∧ second = .ecbDecStart ∨ first = .ctrEncStart ∧ second = .ctrDecStart) →
    framedMessage blocks = true → blocks.length ≤ 2 ^ 64 →
    s.status.err = none → s.status.keyValid = true → s.status.msgActive = false → s.status.doutPending = false →
    s.status.busy = false → s.pending = none →
    ∃ t u, nextEvents (2 * (polls + 3) + blocks.length * (polls + 7))
        { s with schedule := messageEvents first blocks polls, reads := [] } = .next t ∧ t.schedule = [] ∧
      let outputs := (readsOf .dout t.reads).zip (blocks.map Prod.snd)
      nextEvents (2 * (polls + 3) + blocks.length * (polls + 7))
          { t with schedule := messageEvents second outputs polls, reads := [] } = .next u ∧ u.schedule = [] ∧
        readsOf .dout u.reads = blocks.map Prod.fst ∧ u.status.err = none

/-- R81: WAIT reads STATUS; where bit 8 of the value read is 0 it is over after that one read, and where it is 1 it is
still to be passed. R282: after an accepted `DO <command>` with any number of reads that find BUSY = 1, the state is the
same but for the reads, the last of which finds BUSY = 0. (Where the core's turn comes in the loop is an argument of WAIT,
the model's choice: log 13.) -/
def Obligations.WaitReadsUntilNotBusy : Prop :=
  (∀ (s : State) (n : Nat) (es : List Event), s.schedule = .wait n :: es →
    ∃ w, (w.getLsbD 8 = s.status.busy) ∧
      (w.getLsbD 8 = false → step s = .next { s with schedule := es, reads := s.reads ++ [(0x01#8, w)] }) ∧
      (w.getLsbD 8 = true → ∃ m, .wait m ∈ waitEvents n ∧
        step s = .next { s with schedule := waitEvents n ++ es, reads := s.reads ++ [(0x01#8, w)] })) ∧
  (∀ (s : State) (i : Instr) (p q : Nat) (es : List Event), s.status.busy = false →
    ∃ t u, nextEvents (p + 3) { s with schedule := doEvents i p ++ es } = .next t ∧
      nextEvents (q + 3) { s with schedule := doEvents i q ++ es } = .next u ∧
      t.schedule = es ∧ u = { t with reads := u.reads } ∧ t.status.busy = false ∧ t.pending = none ∧
      ∃ w w' : Word, w.getLsbD 8 = true ∧ w'.getLsbD 8 = false ∧
        t.reads = s.reads ++ List.replicate p (0x01#8, w) ++ [(0x01#8, w')] ∧
        u.reads = s.reads ++ List.replicate q (0x01#8, w) ++ [(0x01#8, w')])

/-- After R282's fairness: a command does not stay in the latch for ever; PENDING is empty after a bounded number of steps,
the command being performed, refused, ignored or, by RST, discarded. The bound counts one step for each event listed, all
the reads of a WAIT and the core's turn in it, and one more. The schedule of events, the core's step when none is listed
and the core's turn in a WAIT are the model's choice (logs 5 and 13). -/
def Obligations.LatchEmptiesInTheEnd : Prop :=
  ∀ s : State, s.pending ≠ none →
    let steps : Event → Nat := fun e => match e with
      | .wait polls => polls + 2
      | _ => 1
    ∃ n t, n ≤ (s.schedule.map steps).sum + 1 ∧ nextEvents n s = .next t ∧ t.pending = none

/-! ## Whole-machine rules -/

/-- R180, R26: a message becomes active only by one of the four *_START commands, and stops being active only by MSG_END, an
error or RST. -/
def Obligations.MessageLifecycle : Prop :=
  ∀ s t : State, step s = .next t →
    (s.status.msgActive = false → t.status.msgActive = true →
      ∃ i, s.pending = some (encode i) ∧
        (i = .ecbEncStart ∨ i = .ecbDecStart ∨ i = .ctrEncStart ∨ i = .ctrDecStart)) ∧
    (s.status.msgActive = true → t.status.msgActive = false →
      s.pending = some (encode .msgEnd) ∨ t.errLog ≠ s.errLog ∨ ∃ es, s.schedule = .rst :: es)

/-- R40, R125: no step but RST changes KEY or a subkey while a message is active. -/
def Obligations.KeyConstantDuringMessage : Prop :=
  ∀ s t : State, step s = .next t → s.status.msgActive = true → (∀ es, s.schedule ≠ .rst :: es) →
    t.key = s.key ∧ t.sk = s.sk ∧ t.status.keyValid = s.status.keyValid

/-- R30: no step but RST changes DOUT or DOUT_TAG while a result is unread. -/
def Obligations.NoResultOverwrittenUnread : Prop :=
  ∀ s t : State, step s = .next t → s.status.doutPending = true → (∀ es, s.schedule ≠ .rst :: es) →
    t.dout = s.dout ∧ t.doutTag = s.doutTag

/-- R27, R28, R39: CTR is written only by the *_START commands (0), by a CTR-mode MSG_BLOCK (one more) and by RST; MODE and
DIR only by the *_START commands and RST. -/
def Obligations.SequencerStateWriters : Prop :=
  ∀ s t : State, step s = .next t → (∀ es, s.schedule ≠ .rst :: es) →
    (t.ctr ≠ s.ctr →
      (t.ctr = 0#64 ∧ ∃ i, s.pending = some (encode i) ∧
        (i = .ecbEncStart ∨ i = .ecbDecStart ∨ i = .ctrEncStart ∨ i = .ctrDecStart)) ∨
      (t.ctr = s.ctr + 1#64 ∧ s.status.mode = .ctr ∧ s.pending = some (encode .msgBlock))) ∧
    (t.status.mode ≠ s.status.mode ∨ t.status.dir ≠ s.status.dir →
      ∃ i, s.pending = some (encode i) ∧
        (i = .ecbEncStart ∨ i = .ecbDecStart ∨ i = .ctrEncStart ∨ i = .ctrDecStart))

/-- R25, R29, R272: KEY_VALID and DOUT_VALID return to 0 only by RST. -/
def Obligations.ValidFlagsClearedOnlyByReset : Prop :=
  ∀ s t : State, step s = .next t → (∀ es, s.schedule ≠ .rst :: es) →
    (s.status.keyValid = true → t.status.keyValid = true) ∧ (s.status.doutValid = true → t.status.doutValid = true)

/-- R44, U6: while the run mark is not set, no result depends on what an UNSPECIFIED register holds: two states that agree
in all the spec fixes step to two such states, and the host reads the same values. (The run mark is the model's: log 1.) -/
def Obligations.CleanRunIgnoresUnspecifiedValues : Prop :=
  ∀ s s' t : State, s.Inv → s.SameDefined s' → step s = .next t → t.cleanRun →
    ∃ t', step s' = .next t' ∧ t.SameDefined t'

/-! ## The framing contract of the host -/

/-- R202, under both representations of the count (R204): `unframe(frame(bytes)) == bytes`, and a framed message has every
tag in 0..8 and only its last below 8; with the count embedded, every DIN_TAG is 8. -/
def Obligations.FramingRoundTrip : Prop :=
  ∀ (repr : TagRepr) (bs : List Byte), unframeFor repr (frameFor repr bs) = .ok bs ∧
    framedMessage (frameFor repr bs) = true ∧
    (repr = .embeddedLowByte → ∀ b ∈ frameFor repr bs, b.2 = 8#4)

/-- R200, R205: L bytes give floor(L/8) + 1 blocks, the last with tag L mod 8; the artifact has 8 bytes per block, whose
first L are the input's and the rest zero. -/
def Obligations.FramedMessageShape : Prop :=
  ∀ bs : List Byte,
    (frame bs).length = bs.length / 8 + 1 ∧
    ((frame bs).getLast?.map fun b => b.2.toNat) = some (bs.length % 8) ∧
    artifact (frame bs) = bs ++ List.replicate (8 * (bs.length / 8 + 1) - bs.length) 0#8

/-- R203, R204: `unframe` fails fast on any block whose tag is outside 0..8 and on an embedded count above 7, and the core
never gives out a tag above 8 (a MSG_BLOCK that has one is refused with TAG_RANGE). That `unframe` checks the tag of any
block, and the embedded form the last block's count only, is the model's reading (log 12). -/
def Obligations.OutOfRangeRealSizeFailsFast : Prop :=
  (∀ blocks : List (Word × Tag), (∃ b ∈ blocks, 8#4 < b.2) → unframe blocks = .error .framingTag) ∧
  (∀ (blocks : List (Word × Tag)) (w : Word) (t : Tag), 7#8 < w.extractLsb' 0 8 →
    unframeEmbedded (blocks ++ [(w, t)]) = .error .framingCount) ∧
  (∀ s t : State, exec .msgBlock s = .next t → t.doutTag ≠ s.doutTag → t.doutTag ≤ 8#4)
end

