-- ==== Sys2Proof/Laws/Decode.lean ====
section
/-! SUPPORT. The word of the fields and the fields of a word are inverse, and a command's fields pass every check. -/

namespace Sys2Proof.Laws.Decode

@[simp] theorem fieldsOf_wordOf (f : CommandFields) : fieldsOf (wordOf f) = f := by
  obtain ⟨op, sksel, res⟩ := f
  simp only [fieldsOf, wordOf, CommandFields.mk.injEq]
  refine ⟨?_, ?_, ?_⟩ <;>
    (apply BitVec.eq_of_getLsbD_eq
     intro i hi
     simp only [BitVec.getLsbD_extractLsb', BitVec.getLsbD_cast, BitVec.getLsbD_append])
  · simp [hi]
  · have h1 : ¬ 8 + i < 8 := by omega
    have h2 : 8 + i - 8 = i := by omega
    simp only [h1, h2, hi]; simp
  · have h1 : ¬ 12 + i < 8 := by omega
    have h2 : ¬ 12 + i - 8 < 4 := by omega
    have h3 : 12 + i - 8 - 4 = i := by omega
    simp only [h1, h2, h3, hi]; simp

@[simp] theorem wordOf_fieldsOf (v : Word) : wordOf (fieldsOf v) = v := by
  apply BitVec.eq_of_getLsbD_eq
  intro i hi
  simp only [fieldsOf, wordOf, BitVec.getLsbD_extractLsb', BitVec.getLsbD_cast, BitVec.getLsbD_append]
  split
  · simp [*]
  · have e : 8 + (i - 8) = i ∧ (¬ i - 8 < 4 → 12 + (i - 8 - 4) = i ∧ i - 8 - 4 < 52) := by omega
    split
    · simp only [e.1, *]; simp
    · simp only [(e.2 ‹_›).1, (e.2 ‹_›).2]; simp

/-- Every command's fields pass the three checks (R73, R74, R75). -/
theorem fields_wellFormed (i : Instr) : (fieldsOfInstr i).wellFormed = true := by
  cases i <;> rfl

/-- The opcode map gives a command exactly for the OP values R74 leaves, with that OP (R71). -/
theorem commandOf_some {op : BitVec 8} {k : BitVec 4} {i : Instr} (h : commandOf op k = some i) :
    opcodeOf i = op ∧ (op = 0x04#8 → i = .round k) ∧ (op ≠ 0x04#8 → skselOf i = 0#4) := by
  simp only [commandOf, ite_eq_iff, Option.some.injEq, reduceCtorEq, and_false, or_false] at h
  rcases h with ⟨rfl, rfl⟩ | ⟨-, ⟨rfl, rfl⟩ | ⟨-, ⟨rfl, rfl⟩ | ⟨-, ⟨rfl, rfl⟩ | ⟨-, ⟨rfl, rfl⟩ | ⟨-, ⟨rfl, rfl⟩ |
    ⟨-, ⟨rfl, rfl⟩ | ⟨-, ⟨rfl, rfl⟩ | ⟨-, ⟨rfl, rfl⟩ | ⟨-, ⟨rfl, rfl⟩ | ⟨-, ⟨rfl, rfl⟩ | ⟨-, ⟨rfl, rfl⟩⟩⟩⟩⟩⟩⟩⟩⟩⟩⟩⟩
  all_goals simp [opcodeOf, skselOf]

theorem commandOf_opcodeOf (i : Instr) : commandOf (opcodeOf i) (skselOf i) = some i := by
  cases i <;> rfl

/-- A 64-bit word numbered as the table numbers it is itself. -/
@[simp] theorem tableWord_toNat (v : Word) : tableWord 64 v.toNat = v := by
  unfold tableWord
  rw [Nat.mod_eq_of_lt v.isLt]
  exact BitVec.ofNat_toNat 64 v |>.trans (BitVec.setWidth_eq v)

end Sys2Proof.Laws.Decode
end

