-- ==== Sys2Proof/Laws/State.lean ====
section
/-! SUPPORT. What each named update leaves in each field of STATUS and of State: one lemma per field per update, so
that no later proof unfolds a record update. -/

namespace Sys2Proof.Machine

section StatusUpdates

variable (st : Status)

@[simp] theorem afterRaise_keyValid (e : ErrCode) : (Status.afterRaise e st).keyValid = st.keyValid := rfl
@[simp] theorem afterRaise_msgActive (e : ErrCode) : (Status.afterRaise e st).msgActive = false := rfl
@[simp] theorem afterRaise_mode (e : ErrCode) : (Status.afterRaise e st).mode = st.mode := rfl
@[simp] theorem afterRaise_dir (e : ErrCode) : (Status.afterRaise e st).dir = st.dir := rfl
@[simp] theorem afterRaise_doutValid (e : ErrCode) : (Status.afterRaise e st).doutValid = st.doutValid := rfl
@[simp] theorem afterRaise_doutPending (e : ErrCode) : (Status.afterRaise e st).doutPending = st.doutPending := rfl
@[simp] theorem afterRaise_tailSeen (e : ErrCode) : (Status.afterRaise e st).tailSeen = st.tailSeen := rfl
@[simp] theorem afterRaise_ctrExh (e : ErrCode) : (Status.afterRaise e st).ctrExh = st.ctrExh := rfl
@[simp] theorem afterRaise_busy (e : ErrCode) : (Status.afterRaise e st).busy = st.busy := rfl
@[simp] theorem afterRaise_err (e : ErrCode) : (Status.afterRaise e st).err = st.err.or (some e) := rfl

@[simp] theorem afterResult_keyValid : (Status.afterResult st).keyValid = st.keyValid := rfl
@[simp] theorem afterResult_msgActive : (Status.afterResult st).msgActive = st.msgActive := rfl
@[simp] theorem afterResult_mode : (Status.afterResult st).mode = st.mode := rfl
@[simp] theorem afterResult_dir : (Status.afterResult st).dir = st.dir := rfl
@[simp] theorem afterResult_doutValid : (Status.afterResult st).doutValid = true := rfl
@[simp] theorem afterResult_doutPending : (Status.afterResult st).doutPending = true := rfl
@[simp] theorem afterResult_tailSeen : (Status.afterResult st).tailSeen = st.tailSeen := rfl
@[simp] theorem afterResult_ctrExh : (Status.afterResult st).ctrExh = st.ctrExh := rfl
@[simp] theorem afterResult_busy : (Status.afterResult st).busy = st.busy := rfl
@[simp] theorem afterResult_err : (Status.afterResult st).err = st.err := rfl

@[simp] theorem afterStart_keyValid (m : Mode) (d : Dir) : (Status.afterStart m d st).keyValid = st.keyValid := rfl
@[simp] theorem afterStart_msgActive (m : Mode) (d : Dir) : (Status.afterStart m d st).msgActive = true := rfl
@[simp] theorem afterStart_mode (m : Mode) (d : Dir) : (Status.afterStart m d st).mode = m := rfl
@[simp] theorem afterStart_dir (m : Mode) (d : Dir) : (Status.afterStart m d st).dir = d := rfl
@[simp] theorem afterStart_doutValid (m : Mode) (d : Dir) : (Status.afterStart m d st).doutValid = st.doutValid := rfl
@[simp] theorem afterStart_doutPending (m : Mode) (d : Dir) : (Status.afterStart m d st).doutPending = st.doutPending := rfl
@[simp] theorem afterStart_tailSeen (m : Mode) (d : Dir) : (Status.afterStart m d st).tailSeen = false := rfl
@[simp] theorem afterStart_ctrExh (m : Mode) (d : Dir) : (Status.afterStart m d st).ctrExh = false := rfl
@[simp] theorem afterStart_busy (m : Mode) (d : Dir) : (Status.afterStart m d st).busy = st.busy := rfl
@[simp] theorem afterStart_err (m : Mode) (d : Dir) : (Status.afterStart m d st).err = st.err := rfl

@[simp] theorem afterTag_keyValid (t : Tag) : (Status.afterTag t st).keyValid = st.keyValid := rfl
@[simp] theorem afterTag_msgActive (t : Tag) : (Status.afterTag t st).msgActive = st.msgActive := rfl
@[simp] theorem afterTag_mode (t : Tag) : (Status.afterTag t st).mode = st.mode := rfl
@[simp] theorem afterTag_dir (t : Tag) : (Status.afterTag t st).dir = st.dir := rfl
@[simp] theorem afterTag_doutValid (t : Tag) : (Status.afterTag t st).doutValid = st.doutValid := rfl
@[simp] theorem afterTag_doutPending (t : Tag) : (Status.afterTag t st).doutPending = st.doutPending := rfl
@[simp] theorem afterTag_tailSeen (t : Tag) : (Status.afterTag t st).tailSeen = (st.tailSeen || decide (t < 8#4)) := rfl
@[simp] theorem afterTag_ctrExh (t : Tag) : (Status.afterTag t st).ctrExh = st.ctrExh := rfl
@[simp] theorem afterTag_busy (t : Tag) : (Status.afterTag t st).busy = st.busy := rfl
@[simp] theorem afterTag_err (t : Tag) : (Status.afterTag t st).err = st.err := rfl

@[simp] theorem afterCounter_keyValid (c : Word) : (Status.afterCounter c st).keyValid = st.keyValid := rfl
@[simp] theorem afterCounter_msgActive (c : Word) : (Status.afterCounter c st).msgActive = st.msgActive := rfl
@[simp] theorem afterCounter_mode (c : Word) : (Status.afterCounter c st).mode = st.mode := rfl
@[simp] theorem afterCounter_dir (c : Word) : (Status.afterCounter c st).dir = st.dir := rfl
@[simp] theorem afterCounter_doutValid (c : Word) : (Status.afterCounter c st).doutValid = st.doutValid := rfl
@[simp] theorem afterCounter_doutPending (c : Word) : (Status.afterCounter c st).doutPending = st.doutPending := rfl
@[simp] theorem afterCounter_tailSeen (c : Word) : (Status.afterCounter c st).tailSeen = st.tailSeen := rfl
@[simp] theorem afterCounter_ctrExh (c : Word) : (Status.afterCounter c st).ctrExh = (st.ctrExh || c == M64) := rfl
@[simp] theorem afterCounter_busy (c : Word) : (Status.afterCounter c st).busy = st.busy := rfl
@[simp] theorem afterCounter_err (c : Word) : (Status.afterCounter c st).err = st.err := rfl

end StatusUpdates

section StateUpdates

variable (s : State)

@[simp] theorem raiseErr_cfg (e : ErrCode) : (raiseErr e s).cfg = s.cfg := rfl
@[simp] theorem raiseErr_status (e : ErrCode) : (raiseErr e s).status = s.status.afterRaise e := rfl
@[simp] theorem raiseErr_pending (e : ErrCode) : (raiseErr e s).pending = s.pending := rfl
@[simp] theorem raiseErr_din (e : ErrCode) : (raiseErr e s).din = s.din := rfl
@[simp] theorem raiseErr_dinTag (e : ErrCode) : (raiseErr e s).dinTag = s.dinTag := rfl
@[simp] theorem raiseErr_dout (e : ErrCode) : (raiseErr e s).dout = s.dout := rfl
@[simp] theorem raiseErr_doutTag (e : ErrCode) : (raiseErr e s).doutTag = s.doutTag := rfl
@[simp] theorem raiseErr_ctr (e : ErrCode) : (raiseErr e s).ctr = s.ctr := rfl
@[simp] theorem raiseErr_key (e : ErrCode) : (raiseErr e s).key = s.key := rfl
@[simp] theorem raiseErr_sk (e : ErrCode) : (raiseErr e s).sk = s.sk := rfl
@[simp] theorem raiseErr_dinUnwritten (e : ErrCode) : (raiseErr e s).dinUnwritten = s.dinUnwritten := rfl
@[simp] theorem raiseErr_dinTagUnwritten (e : ErrCode) : (raiseErr e s).dinTagUnwritten = s.dinTagUnwritten := rfl
@[simp] theorem raiseErr_doutTagUnwritten (e : ErrCode) : (raiseErr e s).doutTagUnwritten = s.doutTagUnwritten := rfl
@[simp] theorem raiseErr_schedule (e : ErrCode) : (raiseErr e s).schedule = s.schedule := rfl
@[simp] theorem raiseErr_reads (e : ErrCode) : (raiseErr e s).reads = s.reads := rfl
@[simp] theorem raiseErr_errLog (e : ErrCode) : (raiseErr e s).errLog = s.errLog ++ [e] := rfl
@[simp] theorem raiseErr_runFault (e : ErrCode) : (raiseErr e s).runFault = s.runFault := rfl
@[simp] theorem raiseErr_freeCtr (e : ErrCode) : (raiseErr e s).freeCtr = s.freeCtr := rfl

@[simp] theorem clearErr_cfg : (clearErr s).cfg = s.cfg := rfl
@[simp] theorem clearErr_status : (clearErr s).status = { s.status with err := none } := rfl
@[simp] theorem clearErr_pending : (clearErr s).pending = s.pending := rfl
@[simp] theorem clearErr_din : (clearErr s).din = s.din := rfl
@[simp] theorem clearErr_dinTag : (clearErr s).dinTag = s.dinTag := rfl
@[simp] theorem clearErr_dout : (clearErr s).dout = s.dout := rfl
@[simp] theorem clearErr_doutTag : (clearErr s).doutTag = s.doutTag := rfl
@[simp] theorem clearErr_ctr : (clearErr s).ctr = s.ctr := rfl
@[simp] theorem clearErr_key : (clearErr s).key = s.key := rfl
@[simp] theorem clearErr_sk : (clearErr s).sk = s.sk := rfl
@[simp] theorem clearErr_dinUnwritten : (clearErr s).dinUnwritten = s.dinUnwritten := rfl
@[simp] theorem clearErr_dinTagUnwritten : (clearErr s).dinTagUnwritten = s.dinTagUnwritten := rfl
@[simp] theorem clearErr_doutTagUnwritten : (clearErr s).doutTagUnwritten = s.doutTagUnwritten := rfl
@[simp] theorem clearErr_schedule : (clearErr s).schedule = s.schedule := rfl
@[simp] theorem clearErr_reads : (clearErr s).reads = s.reads := rfl
@[simp] theorem clearErr_errLog : (clearErr s).errLog = s.errLog := rfl
@[simp] theorem clearErr_runFault : (clearErr s).runFault = s.runFault := rfl
@[simp] theorem clearErr_freeCtr : (clearErr s).freeCtr = s.freeCtr := rfl

@[simp] theorem noteUnspec_cfg (u : UnspecUse) (c : Bool) : (noteUnspec u c s).cfg = s.cfg := rfl
@[simp] theorem noteUnspec_status (u : UnspecUse) (c : Bool) : (noteUnspec u c s).status = s.status := rfl
@[simp] theorem noteUnspec_pending (u : UnspecUse) (c : Bool) : (noteUnspec u c s).pending = s.pending := rfl
@[simp] theorem noteUnspec_din (u : UnspecUse) (c : Bool) : (noteUnspec u c s).din = s.din := rfl
@[simp] theorem noteUnspec_dinTag (u : UnspecUse) (c : Bool) : (noteUnspec u c s).dinTag = s.dinTag := rfl
@[simp] theorem noteUnspec_dout (u : UnspecUse) (c : Bool) : (noteUnspec u c s).dout = s.dout := rfl
@[simp] theorem noteUnspec_doutTag (u : UnspecUse) (c : Bool) : (noteUnspec u c s).doutTag = s.doutTag := rfl
@[simp] theorem noteUnspec_ctr (u : UnspecUse) (c : Bool) : (noteUnspec u c s).ctr = s.ctr := rfl
@[simp] theorem noteUnspec_key (u : UnspecUse) (c : Bool) : (noteUnspec u c s).key = s.key := rfl
@[simp] theorem noteUnspec_sk (u : UnspecUse) (c : Bool) : (noteUnspec u c s).sk = s.sk := rfl
@[simp] theorem noteUnspec_dinUnwritten (u : UnspecUse) (c : Bool) : (noteUnspec u c s).dinUnwritten = s.dinUnwritten := rfl
@[simp] theorem noteUnspec_dinTagUnwritten (u : UnspecUse) (c : Bool) : (noteUnspec u c s).dinTagUnwritten = s.dinTagUnwritten := rfl
@[simp] theorem noteUnspec_doutTagUnwritten (u : UnspecUse) (c : Bool) : (noteUnspec u c s).doutTagUnwritten = s.doutTagUnwritten := rfl
@[simp] theorem noteUnspec_schedule (u : UnspecUse) (c : Bool) : (noteUnspec u c s).schedule = s.schedule := rfl
@[simp] theorem noteUnspec_reads (u : UnspecUse) (c : Bool) : (noteUnspec u c s).reads = s.reads := rfl
@[simp] theorem noteUnspec_errLog (u : UnspecUse) (c : Bool) : (noteUnspec u c s).errLog = s.errLog := rfl
@[simp] theorem noteUnspec_runFault (u : UnspecUse) (c : Bool) : (noteUnspec u c s).runFault = s.runFault.or (if c then some u else none) := rfl
@[simp] theorem noteUnspec_freeCtr (u : UnspecUse) (c : Bool) : (noteUnspec u c s).freeCtr = s.freeCtr := rfl

@[simp] theorem noteDinRead_cfg : (noteDinRead s).cfg = s.cfg := rfl
@[simp] theorem noteDinRead_status : (noteDinRead s).status = s.status := rfl
@[simp] theorem noteDinRead_pending : (noteDinRead s).pending = s.pending := rfl
@[simp] theorem noteDinRead_din : (noteDinRead s).din = s.din := rfl
@[simp] theorem noteDinRead_dinTag : (noteDinRead s).dinTag = s.dinTag := rfl
@[simp] theorem noteDinRead_dout : (noteDinRead s).dout = s.dout := rfl
@[simp] theorem noteDinRead_doutTag : (noteDinRead s).doutTag = s.doutTag := rfl
@[simp] theorem noteDinRead_ctr : (noteDinRead s).ctr = s.ctr := rfl
@[simp] theorem noteDinRead_key : (noteDinRead s).key = s.key := rfl
@[simp] theorem noteDinRead_sk : (noteDinRead s).sk = s.sk := rfl
@[simp] theorem noteDinRead_dinUnwritten : (noteDinRead s).dinUnwritten = s.dinUnwritten := rfl
@[simp] theorem noteDinRead_dinTagUnwritten : (noteDinRead s).dinTagUnwritten = s.dinTagUnwritten := rfl
@[simp] theorem noteDinRead_doutTagUnwritten : (noteDinRead s).doutTagUnwritten = s.doutTagUnwritten := rfl
@[simp] theorem noteDinRead_schedule : (noteDinRead s).schedule = s.schedule := rfl
@[simp] theorem noteDinRead_reads : (noteDinRead s).reads = s.reads := rfl
@[simp] theorem noteDinRead_errLog : (noteDinRead s).errLog = s.errLog := rfl
@[simp] theorem noteDinRead_runFault : (noteDinRead s).runFault = s.runFault.or (if s.dinUnwritten then some .operandUnwritten else none) := rfl
@[simp] theorem noteDinRead_freeCtr : (noteDinRead s).freeCtr = s.freeCtr := rfl

@[simp] theorem noteTagRead_cfg : (noteTagRead s).cfg = s.cfg := rfl
@[simp] theorem noteTagRead_status : (noteTagRead s).status = s.status := rfl
@[simp] theorem noteTagRead_pending : (noteTagRead s).pending = s.pending := rfl
@[simp] theorem noteTagRead_din : (noteTagRead s).din = s.din := rfl
@[simp] theorem noteTagRead_dinTag : (noteTagRead s).dinTag = s.dinTag := rfl
@[simp] theorem noteTagRead_dout : (noteTagRead s).dout = s.dout := rfl
@[simp] theorem noteTagRead_doutTag : (noteTagRead s).doutTag = s.doutTag := rfl
@[simp] theorem noteTagRead_ctr : (noteTagRead s).ctr = s.ctr := rfl
@[simp] theorem noteTagRead_key : (noteTagRead s).key = s.key := rfl
@[simp] theorem noteTagRead_sk : (noteTagRead s).sk = s.sk := rfl
@[simp] theorem noteTagRead_dinUnwritten : (noteTagRead s).dinUnwritten = s.dinUnwritten := rfl
@[simp] theorem noteTagRead_dinTagUnwritten : (noteTagRead s).dinTagUnwritten = s.dinTagUnwritten := rfl
@[simp] theorem noteTagRead_doutTagUnwritten : (noteTagRead s).doutTagUnwritten = s.doutTagUnwritten := rfl
@[simp] theorem noteTagRead_schedule : (noteTagRead s).schedule = s.schedule := rfl
@[simp] theorem noteTagRead_reads : (noteTagRead s).reads = s.reads := rfl
@[simp] theorem noteTagRead_errLog : (noteTagRead s).errLog = s.errLog := rfl
@[simp] theorem noteTagRead_runFault : (noteTagRead s).runFault = s.runFault.or (if s.dinTagUnwritten then some .operandUnwritten else none) := rfl
@[simp] theorem noteTagRead_freeCtr : (noteTagRead s).freeCtr = s.freeCtr := rfl

@[simp] theorem freeLatch_cfg : (freeLatch s).cfg = s.cfg := rfl
@[simp] theorem freeLatch_status : (freeLatch s).status = { s.status with busy := false } := rfl
@[simp] theorem freeLatch_pending : (freeLatch s).pending = none := rfl
@[simp] theorem freeLatch_din : (freeLatch s).din = s.din := rfl
@[simp] theorem freeLatch_dinTag : (freeLatch s).dinTag = s.dinTag := rfl
@[simp] theorem freeLatch_dout : (freeLatch s).dout = s.dout := rfl
@[simp] theorem freeLatch_doutTag : (freeLatch s).doutTag = s.doutTag := rfl
@[simp] theorem freeLatch_ctr : (freeLatch s).ctr = s.ctr := rfl
@[simp] theorem freeLatch_key : (freeLatch s).key = s.key := rfl
@[simp] theorem freeLatch_sk : (freeLatch s).sk = s.sk := rfl
@[simp] theorem freeLatch_dinUnwritten : (freeLatch s).dinUnwritten = s.dinUnwritten := rfl
@[simp] theorem freeLatch_dinTagUnwritten : (freeLatch s).dinTagUnwritten = s.dinTagUnwritten := rfl
@[simp] theorem freeLatch_doutTagUnwritten : (freeLatch s).doutTagUnwritten = s.doutTagUnwritten := rfl
@[simp] theorem freeLatch_schedule : (freeLatch s).schedule = s.schedule := rfl
@[simp] theorem freeLatch_reads : (freeLatch s).reads = s.reads := rfl
@[simp] theorem freeLatch_errLog : (freeLatch s).errLog = s.errLog := rfl
@[simp] theorem freeLatch_runFault : (freeLatch s).runFault = s.runFault := rfl
@[simp] theorem freeLatch_freeCtr : (freeLatch s).freeCtr = s.freeCtr := rfl

@[simp] theorem latch_cfg (v : Word) : (latch v s).cfg = s.cfg := rfl
@[simp] theorem latch_status (v : Word) : (latch v s).status = { s.status with busy := true } := rfl
@[simp] theorem latch_pending (v : Word) : (latch v s).pending = some v := rfl
@[simp] theorem latch_din (v : Word) : (latch v s).din = s.din := rfl
@[simp] theorem latch_dinTag (v : Word) : (latch v s).dinTag = s.dinTag := rfl
@[simp] theorem latch_dout (v : Word) : (latch v s).dout = s.dout := rfl
@[simp] theorem latch_doutTag (v : Word) : (latch v s).doutTag = s.doutTag := rfl
@[simp] theorem latch_ctr (v : Word) : (latch v s).ctr = s.ctr := rfl
@[simp] theorem latch_key (v : Word) : (latch v s).key = s.key := rfl
@[simp] theorem latch_sk (v : Word) : (latch v s).sk = s.sk := rfl
@[simp] theorem latch_dinUnwritten (v : Word) : (latch v s).dinUnwritten = s.dinUnwritten := rfl
@[simp] theorem latch_dinTagUnwritten (v : Word) : (latch v s).dinTagUnwritten = s.dinTagUnwritten := rfl
@[simp] theorem latch_doutTagUnwritten (v : Word) : (latch v s).doutTagUnwritten = s.doutTagUnwritten := rfl
@[simp] theorem latch_schedule (v : Word) : (latch v s).schedule = s.schedule := rfl
@[simp] theorem latch_reads (v : Word) : (latch v s).reads = s.reads := rfl
@[simp] theorem latch_errLog (v : Word) : (latch v s).errLog = s.errLog := rfl
@[simp] theorem latch_runFault (v : Word) : (latch v s).runFault = s.runFault := rfl
@[simp] theorem latch_freeCtr (v : Word) : (latch v s).freeCtr = s.freeCtr := rfl

@[simp] theorem storeKey_cfg (k : Word) (sks : Vector Subkey 16) : (storeKey k sks s).cfg = s.cfg := rfl
@[simp] theorem storeKey_status (k : Word) (sks : Vector Subkey 16) : (storeKey k sks s).status = { s.status with keyValid := true } := rfl
@[simp] theorem storeKey_pending (k : Word) (sks : Vector Subkey 16) : (storeKey k sks s).pending = s.pending := rfl
@[simp] theorem storeKey_din (k : Word) (sks : Vector Subkey 16) : (storeKey k sks s).din = s.din := rfl
@[simp] theorem storeKey_dinTag (k : Word) (sks : Vector Subkey 16) : (storeKey k sks s).dinTag = s.dinTag := rfl
@[simp] theorem storeKey_dout (k : Word) (sks : Vector Subkey 16) : (storeKey k sks s).dout = s.dout := rfl
@[simp] theorem storeKey_doutTag (k : Word) (sks : Vector Subkey 16) : (storeKey k sks s).doutTag = s.doutTag := rfl
@[simp] theorem storeKey_ctr (k : Word) (sks : Vector Subkey 16) : (storeKey k sks s).ctr = s.ctr := rfl
@[simp] theorem storeKey_key (k : Word) (sks : Vector Subkey 16) : (storeKey k sks s).key = k := rfl
@[simp] theorem storeKey_sk (k : Word) (sks : Vector Subkey 16) : (storeKey k sks s).sk = sks.map (BitVec.setWidth 64) := rfl
@[simp] theorem storeKey_dinUnwritten (k : Word) (sks : Vector Subkey 16) : (storeKey k sks s).dinUnwritten = s.dinUnwritten := rfl
@[simp] theorem storeKey_dinTagUnwritten (k : Word) (sks : Vector Subkey 16) : (storeKey k sks s).dinTagUnwritten = s.dinTagUnwritten := rfl
@[simp] theorem storeKey_doutTagUnwritten (k : Word) (sks : Vector Subkey 16) : (storeKey k sks s).doutTagUnwritten = s.doutTagUnwritten := rfl
@[simp] theorem storeKey_schedule (k : Word) (sks : Vector Subkey 16) : (storeKey k sks s).schedule = s.schedule := rfl
@[simp] theorem storeKey_reads (k : Word) (sks : Vector Subkey 16) : (storeKey k sks s).reads = s.reads := rfl
@[simp] theorem storeKey_errLog (k : Word) (sks : Vector Subkey 16) : (storeKey k sks s).errLog = s.errLog := rfl
@[simp] theorem storeKey_runFault (k : Word) (sks : Vector Subkey 16) : (storeKey k sks s).runFault = s.runFault := rfl
@[simp] theorem storeKey_freeCtr (k : Word) (sks : Vector Subkey 16) : (storeKey k sks s).freeCtr = s.freeCtr := rfl

@[simp] theorem putResult_cfg (v : Word) : (putResult v s).cfg = s.cfg := rfl
@[simp] theorem putResult_status (v : Word) : (putResult v s).status = s.status.afterResult := rfl
@[simp] theorem putResult_pending (v : Word) : (putResult v s).pending = s.pending := rfl
@[simp] theorem putResult_din (v : Word) : (putResult v s).din = s.din := rfl
@[simp] theorem putResult_dinTag (v : Word) : (putResult v s).dinTag = s.dinTag := rfl
@[simp] theorem putResult_dout (v : Word) : (putResult v s).dout = v := rfl
@[simp] theorem putResult_doutTag (v : Word) : (putResult v s).doutTag = s.doutTag := rfl
@[simp] theorem putResult_ctr (v : Word) : (putResult v s).ctr = s.ctr := rfl
@[simp] theorem putResult_key (v : Word) : (putResult v s).key = s.key := rfl
@[simp] theorem putResult_sk (v : Word) : (putResult v s).sk = s.sk := rfl
@[simp] theorem putResult_dinUnwritten (v : Word) : (putResult v s).dinUnwritten = s.dinUnwritten := rfl
@[simp] theorem putResult_dinTagUnwritten (v : Word) : (putResult v s).dinTagUnwritten = s.dinTagUnwritten := rfl
@[simp] theorem putResult_doutTagUnwritten (v : Word) : (putResult v s).doutTagUnwritten = s.doutTagUnwritten := rfl
@[simp] theorem putResult_schedule (v : Word) : (putResult v s).schedule = s.schedule := rfl
@[simp] theorem putResult_reads (v : Word) : (putResult v s).reads = s.reads := rfl
@[simp] theorem putResult_errLog (v : Word) : (putResult v s).errLog = s.errLog := rfl
@[simp] theorem putResult_runFault (v : Word) : (putResult v s).runFault = s.runFault := rfl
@[simp] theorem putResult_freeCtr (v : Word) : (putResult v s).freeCtr = s.freeCtr := rfl

@[simp] theorem startMsg_cfg (m : Mode) (d : Dir) : (startMsg m d s).cfg = s.cfg := rfl
@[simp] theorem startMsg_status (m : Mode) (d : Dir) : (startMsg m d s).status = s.status.afterStart m d := rfl
@[simp] theorem startMsg_pending (m : Mode) (d : Dir) : (startMsg m d s).pending = s.pending := rfl
@[simp] theorem startMsg_din (m : Mode) (d : Dir) : (startMsg m d s).din = s.din := rfl
@[simp] theorem startMsg_dinTag (m : Mode) (d : Dir) : (startMsg m d s).dinTag = s.dinTag := rfl
@[simp] theorem startMsg_dout (m : Mode) (d : Dir) : (startMsg m d s).dout = s.dout := rfl
@[simp] theorem startMsg_doutTag (m : Mode) (d : Dir) : (startMsg m d s).doutTag = s.doutTag := rfl
@[simp] theorem startMsg_ctr (m : Mode) (d : Dir) : (startMsg m d s).ctr = 0#64 := rfl
@[simp] theorem startMsg_key (m : Mode) (d : Dir) : (startMsg m d s).key = s.key := rfl
@[simp] theorem startMsg_sk (m : Mode) (d : Dir) : (startMsg m d s).sk = s.sk := rfl
@[simp] theorem startMsg_dinUnwritten (m : Mode) (d : Dir) : (startMsg m d s).dinUnwritten = s.dinUnwritten := rfl
@[simp] theorem startMsg_dinTagUnwritten (m : Mode) (d : Dir) : (startMsg m d s).dinTagUnwritten = s.dinTagUnwritten := rfl
@[simp] theorem startMsg_doutTagUnwritten (m : Mode) (d : Dir) : (startMsg m d s).doutTagUnwritten = s.doutTagUnwritten := rfl
@[simp] theorem startMsg_schedule (m : Mode) (d : Dir) : (startMsg m d s).schedule = s.schedule := rfl
@[simp] theorem startMsg_reads (m : Mode) (d : Dir) : (startMsg m d s).reads = s.reads := rfl
@[simp] theorem startMsg_errLog (m : Mode) (d : Dir) : (startMsg m d s).errLog = s.errLog := rfl
@[simp] theorem startMsg_runFault (m : Mode) (d : Dir) : (startMsg m d s).runFault = s.runFault := rfl
@[simp] theorem startMsg_freeCtr (m : Mode) (d : Dir) : (startMsg m d s).freeCtr = s.freeCtr := rfl

@[simp] theorem endMsg_cfg : (endMsg s).cfg = s.cfg := rfl
@[simp] theorem endMsg_status : (endMsg s).status = { s.status with msgActive := false } := rfl
@[simp] theorem endMsg_pending : (endMsg s).pending = s.pending := rfl
@[simp] theorem endMsg_din : (endMsg s).din = s.din := rfl
@[simp] theorem endMsg_dinTag : (endMsg s).dinTag = s.dinTag := rfl
@[simp] theorem endMsg_dout : (endMsg s).dout = s.dout := rfl
@[simp] theorem endMsg_doutTag : (endMsg s).doutTag = s.doutTag := rfl
@[simp] theorem endMsg_ctr : (endMsg s).ctr = s.ctr := rfl
@[simp] theorem endMsg_key : (endMsg s).key = s.key := rfl
@[simp] theorem endMsg_sk : (endMsg s).sk = s.sk := rfl
@[simp] theorem endMsg_dinUnwritten : (endMsg s).dinUnwritten = s.dinUnwritten := rfl
@[simp] theorem endMsg_dinTagUnwritten : (endMsg s).dinTagUnwritten = s.dinTagUnwritten := rfl
@[simp] theorem endMsg_doutTagUnwritten : (endMsg s).doutTagUnwritten = s.doutTagUnwritten := rfl
@[simp] theorem endMsg_schedule : (endMsg s).schedule = s.schedule := rfl
@[simp] theorem endMsg_reads : (endMsg s).reads = s.reads := rfl
@[simp] theorem endMsg_errLog : (endMsg s).errLog = s.errLog := rfl
@[simp] theorem endMsg_runFault : (endMsg s).runFault = s.runFault := rfl
@[simp] theorem endMsg_freeCtr : (endMsg s).freeCtr = s.freeCtr := rfl

@[simp] theorem advanceCtr_cfg : (advanceCtr s).cfg = s.cfg := rfl
@[simp] theorem advanceCtr_status : (advanceCtr s).status = s.status.afterCounter s.ctr := rfl
@[simp] theorem advanceCtr_pending : (advanceCtr s).pending = s.pending := rfl
@[simp] theorem advanceCtr_din : (advanceCtr s).din = s.din := rfl
@[simp] theorem advanceCtr_dinTag : (advanceCtr s).dinTag = s.dinTag := rfl
@[simp] theorem advanceCtr_dout : (advanceCtr s).dout = s.dout := rfl
@[simp] theorem advanceCtr_doutTag : (advanceCtr s).doutTag = s.doutTag := rfl
@[simp] theorem advanceCtr_ctr : (advanceCtr s).ctr = s.ctr + 1#64 := rfl
@[simp] theorem advanceCtr_key : (advanceCtr s).key = s.key := rfl
@[simp] theorem advanceCtr_sk : (advanceCtr s).sk = s.sk := rfl
@[simp] theorem advanceCtr_dinUnwritten : (advanceCtr s).dinUnwritten = s.dinUnwritten := rfl
@[simp] theorem advanceCtr_dinTagUnwritten : (advanceCtr s).dinTagUnwritten = s.dinTagUnwritten := rfl
@[simp] theorem advanceCtr_doutTagUnwritten : (advanceCtr s).doutTagUnwritten = s.doutTagUnwritten := rfl
@[simp] theorem advanceCtr_schedule : (advanceCtr s).schedule = s.schedule := rfl
@[simp] theorem advanceCtr_reads : (advanceCtr s).reads = s.reads := rfl
@[simp] theorem advanceCtr_errLog : (advanceCtr s).errLog = s.errLog := rfl
@[simp] theorem advanceCtr_runFault : (advanceCtr s).runFault = s.runFault := rfl
@[simp] theorem advanceCtr_freeCtr : (advanceCtr s).freeCtr = s.freeCtr := rfl

@[simp] theorem putTag_cfg (t : Tag) : (putTag t s).cfg = s.cfg := rfl
@[simp] theorem putTag_status (t : Tag) : (putTag t s).status = s.status.afterTag t := rfl
@[simp] theorem putTag_pending (t : Tag) : (putTag t s).pending = s.pending := rfl
@[simp] theorem putTag_din (t : Tag) : (putTag t s).din = s.din := rfl
@[simp] theorem putTag_dinTag (t : Tag) : (putTag t s).dinTag = s.dinTag := rfl
@[simp] theorem putTag_dout (t : Tag) : (putTag t s).dout = s.dout := rfl
@[simp] theorem putTag_doutTag (t : Tag) : (putTag t s).doutTag = t := rfl
@[simp] theorem putTag_ctr (t : Tag) : (putTag t s).ctr = s.ctr := rfl
@[simp] theorem putTag_key (t : Tag) : (putTag t s).key = s.key := rfl
@[simp] theorem putTag_sk (t : Tag) : (putTag t s).sk = s.sk := rfl
@[simp] theorem putTag_dinUnwritten (t : Tag) : (putTag t s).dinUnwritten = s.dinUnwritten := rfl
@[simp] theorem putTag_dinTagUnwritten (t : Tag) : (putTag t s).dinTagUnwritten = s.dinTagUnwritten := rfl
@[simp] theorem putTag_doutTagUnwritten (t : Tag) : (putTag t s).doutTagUnwritten = false := rfl
@[simp] theorem putTag_schedule (t : Tag) : (putTag t s).schedule = s.schedule := rfl
@[simp] theorem putTag_reads (t : Tag) : (putTag t s).reads = s.reads := rfl
@[simp] theorem putTag_errLog (t : Tag) : (putTag t s).errLog = s.errLog := rfl
@[simp] theorem putTag_runFault (t : Tag) : (putTag t s).runFault = s.runFault := rfl
@[simp] theorem putTag_freeCtr (t : Tag) : (putTag t s).freeCtr = s.freeCtr := rfl

@[simp] theorem storeDin_cfg (v : Word) : (storeDin v s).cfg = s.cfg := rfl
@[simp] theorem storeDin_status (v : Word) : (storeDin v s).status = s.status := rfl
@[simp] theorem storeDin_pending (v : Word) : (storeDin v s).pending = s.pending := rfl
@[simp] theorem storeDin_din (v : Word) : (storeDin v s).din = v := rfl
@[simp] theorem storeDin_dinTag (v : Word) : (storeDin v s).dinTag = s.dinTag := rfl
@[simp] theorem storeDin_dout (v : Word) : (storeDin v s).dout = s.dout := rfl
@[simp] theorem storeDin_doutTag (v : Word) : (storeDin v s).doutTag = s.doutTag := rfl
@[simp] theorem storeDin_ctr (v : Word) : (storeDin v s).ctr = s.ctr := rfl
@[simp] theorem storeDin_key (v : Word) : (storeDin v s).key = s.key := rfl
@[simp] theorem storeDin_sk (v : Word) : (storeDin v s).sk = s.sk := rfl
@[simp] theorem storeDin_dinUnwritten (v : Word) : (storeDin v s).dinUnwritten = false := rfl
@[simp] theorem storeDin_dinTagUnwritten (v : Word) : (storeDin v s).dinTagUnwritten = s.dinTagUnwritten := rfl
@[simp] theorem storeDin_doutTagUnwritten (v : Word) : (storeDin v s).doutTagUnwritten = s.doutTagUnwritten := rfl
@[simp] theorem storeDin_schedule (v : Word) : (storeDin v s).schedule = s.schedule := rfl
@[simp] theorem storeDin_reads (v : Word) : (storeDin v s).reads = s.reads := rfl
@[simp] theorem storeDin_errLog (v : Word) : (storeDin v s).errLog = s.errLog := rfl
@[simp] theorem storeDin_runFault (v : Word) : (storeDin v s).runFault = s.runFault := rfl
@[simp] theorem storeDin_freeCtr (v : Word) : (storeDin v s).freeCtr = s.freeCtr := rfl

@[simp] theorem storeDinTag_cfg (v : Word) : (storeDinTag v s).cfg = s.cfg := rfl
@[simp] theorem storeDinTag_status (v : Word) : (storeDinTag v s).status = s.status := rfl
@[simp] theorem storeDinTag_pending (v : Word) : (storeDinTag v s).pending = s.pending := rfl
@[simp] theorem storeDinTag_din (v : Word) : (storeDinTag v s).din = s.din := rfl
@[simp] theorem storeDinTag_dinTag (v : Word) : (storeDinTag v s).dinTag = v.extractLsb' 0 4 := rfl
@[simp] theorem storeDinTag_dout (v : Word) : (storeDinTag v s).dout = s.dout := rfl
@[simp] theorem storeDinTag_doutTag (v : Word) : (storeDinTag v s).doutTag = s.doutTag := rfl
@[simp] theorem storeDinTag_ctr (v : Word) : (storeDinTag v s).ctr = s.ctr := rfl
@[simp] theorem storeDinTag_key (v : Word) : (storeDinTag v s).key = s.key := rfl
@[simp] theorem storeDinTag_sk (v : Word) : (storeDinTag v s).sk = s.sk := rfl
@[simp] theorem storeDinTag_dinUnwritten (v : Word) : (storeDinTag v s).dinUnwritten = s.dinUnwritten := rfl
@[simp] theorem storeDinTag_dinTagUnwritten (v : Word) : (storeDinTag v s).dinTagUnwritten = false := rfl
@[simp] theorem storeDinTag_doutTagUnwritten (v : Word) : (storeDinTag v s).doutTagUnwritten = s.doutTagUnwritten := rfl
@[simp] theorem storeDinTag_schedule (v : Word) : (storeDinTag v s).schedule = s.schedule := rfl
@[simp] theorem storeDinTag_reads (v : Word) : (storeDinTag v s).reads = s.reads := rfl
@[simp] theorem storeDinTag_errLog (v : Word) : (storeDinTag v s).errLog = s.errLog := rfl
@[simp] theorem storeDinTag_runFault (v : Word) : (storeDinTag v s).runFault = s.runFault := rfl
@[simp] theorem storeDinTag_freeCtr (v : Word) : (storeDinTag v s).freeCtr = s.freeCtr := rfl

@[simp] theorem setPending_cfg (b : Bool) : (setPending b s).cfg = s.cfg := rfl
@[simp] theorem setPending_status (b : Bool) : (setPending b s).status = { s.status with doutPending := b } := rfl
@[simp] theorem setPending_pending (b : Bool) : (setPending b s).pending = s.pending := rfl
@[simp] theorem setPending_din (b : Bool) : (setPending b s).din = s.din := rfl
@[simp] theorem setPending_dinTag (b : Bool) : (setPending b s).dinTag = s.dinTag := rfl
@[simp] theorem setPending_dout (b : Bool) : (setPending b s).dout = s.dout := rfl
@[simp] theorem setPending_doutTag (b : Bool) : (setPending b s).doutTag = s.doutTag := rfl
@[simp] theorem setPending_ctr (b : Bool) : (setPending b s).ctr = s.ctr := rfl
@[simp] theorem setPending_key (b : Bool) : (setPending b s).key = s.key := rfl
@[simp] theorem setPending_sk (b : Bool) : (setPending b s).sk = s.sk := rfl
@[simp] theorem setPending_dinUnwritten (b : Bool) : (setPending b s).dinUnwritten = s.dinUnwritten := rfl
@[simp] theorem setPending_dinTagUnwritten (b : Bool) : (setPending b s).dinTagUnwritten = s.dinTagUnwritten := rfl
@[simp] theorem setPending_doutTagUnwritten (b : Bool) : (setPending b s).doutTagUnwritten = s.doutTagUnwritten := rfl
@[simp] theorem setPending_schedule (b : Bool) : (setPending b s).schedule = s.schedule := rfl
@[simp] theorem setPending_reads (b : Bool) : (setPending b s).reads = s.reads := rfl
@[simp] theorem setPending_errLog (b : Bool) : (setPending b s).errLog = s.errLog := rfl
@[simp] theorem setPending_runFault (b : Bool) : (setPending b s).runFault = s.runFault := rfl
@[simp] theorem setPending_freeCtr (b : Bool) : (setPending b s).freeCtr = s.freeCtr := rfl

@[simp] theorem takeFree_cfg : (takeFree s).cfg = s.cfg := rfl
@[simp] theorem takeFree_status : (takeFree s).status = s.status := rfl
@[simp] theorem takeFree_pending : (takeFree s).pending = s.pending := rfl
@[simp] theorem takeFree_din : (takeFree s).din = s.din := rfl
@[simp] theorem takeFree_dinTag : (takeFree s).dinTag = s.dinTag := rfl
@[simp] theorem takeFree_dout : (takeFree s).dout = s.dout := rfl
@[simp] theorem takeFree_doutTag : (takeFree s).doutTag = s.doutTag := rfl
@[simp] theorem takeFree_ctr : (takeFree s).ctr = s.ctr := rfl
@[simp] theorem takeFree_key : (takeFree s).key = s.key := rfl
@[simp] theorem takeFree_sk : (takeFree s).sk = s.sk := rfl
@[simp] theorem takeFree_dinUnwritten : (takeFree s).dinUnwritten = s.dinUnwritten := rfl
@[simp] theorem takeFree_dinTagUnwritten : (takeFree s).dinTagUnwritten = s.dinTagUnwritten := rfl
@[simp] theorem takeFree_doutTagUnwritten : (takeFree s).doutTagUnwritten = s.doutTagUnwritten := rfl
@[simp] theorem takeFree_schedule : (takeFree s).schedule = s.schedule := rfl
@[simp] theorem takeFree_reads : (takeFree s).reads = s.reads := rfl
@[simp] theorem takeFree_errLog : (takeFree s).errLog = s.errLog := rfl
@[simp] theorem takeFree_runFault : (takeFree s).runFault = s.runFault := rfl
@[simp] theorem takeFree_freeCtr : (takeFree s).freeCtr = s.freeCtr + 1 := rfl

@[simp] theorem logRead_cfg (idx : RegIndex) (v : Word) : (logRead idx v s).cfg = s.cfg := rfl
@[simp] theorem logRead_status (idx : RegIndex) (v : Word) : (logRead idx v s).status = s.status := rfl
@[simp] theorem logRead_pending (idx : RegIndex) (v : Word) : (logRead idx v s).pending = s.pending := rfl
@[simp] theorem logRead_din (idx : RegIndex) (v : Word) : (logRead idx v s).din = s.din := rfl
@[simp] theorem logRead_dinTag (idx : RegIndex) (v : Word) : (logRead idx v s).dinTag = s.dinTag := rfl
@[simp] theorem logRead_dout (idx : RegIndex) (v : Word) : (logRead idx v s).dout = s.dout := rfl
@[simp] theorem logRead_doutTag (idx : RegIndex) (v : Word) : (logRead idx v s).doutTag = s.doutTag := rfl
@[simp] theorem logRead_ctr (idx : RegIndex) (v : Word) : (logRead idx v s).ctr = s.ctr := rfl
@[simp] theorem logRead_key (idx : RegIndex) (v : Word) : (logRead idx v s).key = s.key := rfl
@[simp] theorem logRead_sk (idx : RegIndex) (v : Word) : (logRead idx v s).sk = s.sk := rfl
@[simp] theorem logRead_dinUnwritten (idx : RegIndex) (v : Word) : (logRead idx v s).dinUnwritten = s.dinUnwritten := rfl
@[simp] theorem logRead_dinTagUnwritten (idx : RegIndex) (v : Word) : (logRead idx v s).dinTagUnwritten = s.dinTagUnwritten := rfl
@[simp] theorem logRead_doutTagUnwritten (idx : RegIndex) (v : Word) : (logRead idx v s).doutTagUnwritten = s.doutTagUnwritten := rfl
@[simp] theorem logRead_schedule (idx : RegIndex) (v : Word) : (logRead idx v s).schedule = s.schedule := rfl
@[simp] theorem logRead_reads (idx : RegIndex) (v : Word) : (logRead idx v s).reads = s.reads ++ [(idx, v)] := rfl
@[simp] theorem logRead_errLog (idx : RegIndex) (v : Word) : (logRead idx v s).errLog = s.errLog := rfl
@[simp] theorem logRead_runFault (idx : RegIndex) (v : Word) : (logRead idx v s).runFault = s.runFault := rfl
@[simp] theorem logRead_freeCtr (idx : RegIndex) (v : Word) : (logRead idx v s).freeCtr = s.freeCtr := rfl

@[simp] theorem listFirst_cfg (es : List Event) : (listFirst es s).cfg = s.cfg := rfl
@[simp] theorem listFirst_status (es : List Event) : (listFirst es s).status = s.status := rfl
@[simp] theorem listFirst_pending (es : List Event) : (listFirst es s).pending = s.pending := rfl
@[simp] theorem listFirst_din (es : List Event) : (listFirst es s).din = s.din := rfl
@[simp] theorem listFirst_dinTag (es : List Event) : (listFirst es s).dinTag = s.dinTag := rfl
@[simp] theorem listFirst_dout (es : List Event) : (listFirst es s).dout = s.dout := rfl
@[simp] theorem listFirst_doutTag (es : List Event) : (listFirst es s).doutTag = s.doutTag := rfl
@[simp] theorem listFirst_ctr (es : List Event) : (listFirst es s).ctr = s.ctr := rfl
@[simp] theorem listFirst_key (es : List Event) : (listFirst es s).key = s.key := rfl
@[simp] theorem listFirst_sk (es : List Event) : (listFirst es s).sk = s.sk := rfl
@[simp] theorem listFirst_dinUnwritten (es : List Event) : (listFirst es s).dinUnwritten = s.dinUnwritten := rfl
@[simp] theorem listFirst_dinTagUnwritten (es : List Event) : (listFirst es s).dinTagUnwritten = s.dinTagUnwritten := rfl
@[simp] theorem listFirst_doutTagUnwritten (es : List Event) : (listFirst es s).doutTagUnwritten = s.doutTagUnwritten := rfl
@[simp] theorem listFirst_schedule (es : List Event) : (listFirst es s).schedule = es ++ s.schedule := rfl
@[simp] theorem listFirst_reads (es : List Event) : (listFirst es s).reads = s.reads := rfl
@[simp] theorem listFirst_errLog (es : List Event) : (listFirst es s).errLog = s.errLog := rfl
@[simp] theorem listFirst_runFault (es : List Event) : (listFirst es s).runFault = s.runFault := rfl
@[simp] theorem listFirst_freeCtr (es : List Event) : (listFirst es s).freeCtr = s.freeCtr := rfl

@[simp] theorem resetEvent_cfg : (resetEvent s).cfg = s.cfg := rfl
@[simp] theorem resetEvent_status : (resetEvent s).status = Status.reset := rfl
@[simp] theorem resetEvent_pending : (resetEvent s).pending = none := rfl
@[simp] theorem resetEvent_din : (resetEvent s).din = 0#64 := rfl
@[simp] theorem resetEvent_dinTag : (resetEvent s).dinTag = 0#4 := rfl
@[simp] theorem resetEvent_dout : (resetEvent s).dout = 0#64 := rfl
@[simp] theorem resetEvent_doutTag : (resetEvent s).doutTag = 0#4 := rfl
@[simp] theorem resetEvent_ctr : (resetEvent s).ctr = 0#64 := rfl
@[simp] theorem resetEvent_key : (resetEvent s).key = 0#64 := rfl
@[simp] theorem resetEvent_sk : (resetEvent s).sk = Vector.replicate 16 0#64 := rfl
@[simp] theorem resetEvent_dinUnwritten : (resetEvent s).dinUnwritten = true := rfl
@[simp] theorem resetEvent_dinTagUnwritten : (resetEvent s).dinTagUnwritten = true := rfl
@[simp] theorem resetEvent_doutTagUnwritten : (resetEvent s).doutTagUnwritten = true := rfl
@[simp] theorem resetEvent_schedule : (resetEvent s).schedule = s.schedule := rfl
@[simp] theorem resetEvent_reads : (resetEvent s).reads = s.reads := rfl
@[simp] theorem resetEvent_errLog : (resetEvent s).errLog = s.errLog := rfl
@[simp] theorem resetEvent_runFault : (resetEvent s).runFault = s.runFault := rfl
@[simp] theorem resetEvent_freeCtr : (resetEvent s).freeCtr = s.freeCtr := rfl

@[simp] theorem withPending_cfg (v : Word) : (withPending v s).cfg = s.cfg := rfl
@[simp] theorem withPending_status (v : Word) : (withPending v s).status = { s.status with busy := true } := rfl
@[simp] theorem withPending_pending (v : Word) : (withPending v s).pending = some v := rfl
@[simp] theorem withPending_din (v : Word) : (withPending v s).din = s.din := rfl
@[simp] theorem withPending_dinTag (v : Word) : (withPending v s).dinTag = s.dinTag := rfl
@[simp] theorem withPending_dout (v : Word) : (withPending v s).dout = s.dout := rfl
@[simp] theorem withPending_doutTag (v : Word) : (withPending v s).doutTag = s.doutTag := rfl
@[simp] theorem withPending_ctr (v : Word) : (withPending v s).ctr = s.ctr := rfl
@[simp] theorem withPending_key (v : Word) : (withPending v s).key = s.key := rfl
@[simp] theorem withPending_sk (v : Word) : (withPending v s).sk = s.sk := rfl
@[simp] theorem withPending_dinUnwritten (v : Word) : (withPending v s).dinUnwritten = s.dinUnwritten := rfl
@[simp] theorem withPending_dinTagUnwritten (v : Word) : (withPending v s).dinTagUnwritten = s.dinTagUnwritten := rfl
@[simp] theorem withPending_doutTagUnwritten (v : Word) : (withPending v s).doutTagUnwritten = s.doutTagUnwritten := rfl
@[simp] theorem withPending_schedule (v : Word) : (withPending v s).schedule = .core :: s.schedule := rfl
@[simp] theorem withPending_reads (v : Word) : (withPending v s).reads = s.reads := rfl
@[simp] theorem withPending_errLog (v : Word) : (withPending v s).errLog = s.errLog := rfl
@[simp] theorem withPending_runFault (v : Word) : (withPending v s).runFault = s.runFault := rfl
@[simp] theorem withPending_freeCtr (v : Word) : (withPending v s).freeCtr = s.freeCtr := rfl

end StateUpdates

end Sys2Proof.Machine
end

