-- ==== Sys2Proof/Laws/Ops.lean ====
section
/-! SUPPORT. One lemma per shared operation that says everything it can do. -/

namespace Sys2Proof.Machine

theorem firstFailing_none_iff (cs : List Check) (s : State) :
    firstFailing cs s = none ↔ ∀ c ∈ cs, c.fails s = false := by
  induction cs with
  | nil => simp [firstFailing]
  | cons c cs ih => simp only [firstFailing]; split <;> simp_all

/-- The error raised is the code of a check of the list that fails, and every check before it passes (R247). -/
theorem firstFailing_some {cs : List Check} {s : State} {e : ErrCode} (h : firstFailing cs s = some e) :
    ∃ pre c post, cs = pre ++ c :: post ∧ (∀ d ∈ pre, d.fails s = false) ∧ c.fails s = true ∧ c.code = e := by
  induction cs with
  | nil => simp [firstFailing] at h
  | cons c cs ih =>
    simp only [firstFailing] at h
    split at h
    · exact ⟨[], c, cs, rfl, by simp, ‹_›, by simpa using h⟩
    · obtain ⟨pre, d, post, rfl, hp, hd, he⟩ := ih h
      exact ⟨c :: pre, d, post, rfl, by simp_all, hd, he⟩

theorem guarded_of_pass {cs : List Check} {f : State → State} {s : State} (h : firstFailing cs s = none) :
    guarded cs f s = f s := by simp [guarded, h]

theorem guarded_of_fail {cs : List Check} {f : State → State} {s : State} {e : ErrCode}
    (h : firstFailing cs s = some e) : guarded cs f s = raiseErr e s := by simp [guarded, h]

/-- A checked command is refused with the first failing check's error, or performed (R225, R245). -/
theorem guarded_cases (cs : List Check) (f : State → State) (s : State) :
    (∃ e, firstFailing cs s = some e ∧ guarded cs f s = raiseErr e s) ∨
      (firstFailing cs s = none ∧ guarded cs f s = f s) := by
  cases h : firstFailing cs s with
  | none => exact .inr ⟨rfl, guarded_of_pass h⟩
  | some e => exact .inl ⟨e, rfl, guarded_of_fail h⟩

theorem unlessErr_of_none {f : State → State} {s : State} (h : s.status.err = none) : unlessErr f s = f s := by
  simp [unlessErr, h]

theorem unlessErr_of_some {f : State → State} {s : State} (h : s.status.err ≠ none) : unlessErr f s = s := by
  cases he : s.status.err <;> simp_all [unlessErr]

/-- A command is ignored while ERR is not 0, and otherwise goes on to its checks (R246). -/
theorem unlessErr_cases (f : State → State) (s : State) :
    (s.status.err ≠ none ∧ unlessErr f s = s) ∨ (s.status.err = none ∧ unlessErr f s = f s) := by
  by_cases h : s.status.err = none
  · exact .inr ⟨h, unlessErr_of_none h⟩
  · exact .inl ⟨h, unlessErr_of_some h⟩

/-- A command behind its checks: ignored, refused with one error, or performed (R225, R246, R247). -/
theorem checked_cases (cs : List Check) (f : State → State) (s : State) :
    (s.status.err ≠ none ∧ unlessErr (guarded cs f) s = s) ∨
      (s.status.err = none ∧ ∃ e, firstFailing cs s = some e ∧ unlessErr (guarded cs f) s = raiseErr e s) ∨
      (s.status.err = none ∧ (∀ c ∈ cs, c.fails s = false) ∧ unlessErr (guarded cs f) s = f s) := by
  rcases unlessErr_cases (guarded cs f) s with ⟨he, h⟩ | ⟨he, h⟩
  · exact .inl ⟨he, h⟩
  · rcases guarded_cases cs f s with ⟨e, hf, hg⟩ | ⟨hf, hg⟩
    · exact .inr (.inl ⟨he, e, hf, h.trans hg⟩)
    · exact .inr (.inr ⟨he, (firstFailing_none_iff cs s).1 hf, h.trans hg⟩)

/-- What the core does with a word that is no command (R225). -/
theorem illegalWord_cases (s : State) :
    (s.status.err ≠ none ∧ illegalWord s = s) ∨ (s.status.err = none ∧ illegalWord s = raiseErr .illegal s) :=
  unlessErr_cases _ s

end Sys2Proof.Machine
end

