-- ==== Sys2Proof/Laws/Exec.lean ====
section
/-! SUPPORT. What performing a command can do: the one inversion lemma of `exec`. -/

namespace Sys2Proof.Machine

/-! The counter of MSG_BLOCK moves CTR and CTR_EXH only. -/

section MsgCounter

variable (s : State)

@[simp] theorem msgCounter_cfg : (msgCounter s).cfg = s.cfg := by unfold msgCounter; split <;> rfl
@[simp] theorem msgCounter_pending : (msgCounter s).pending = s.pending := by unfold msgCounter; split <;> rfl
@[simp] theorem msgCounter_din : (msgCounter s).din = s.din := by unfold msgCounter; split <;> rfl
@[simp] theorem msgCounter_dinTag : (msgCounter s).dinTag = s.dinTag := by unfold msgCounter; split <;> rfl
@[simp] theorem msgCounter_dout : (msgCounter s).dout = s.dout := by unfold msgCounter; split <;> rfl
@[simp] theorem msgCounter_doutTag : (msgCounter s).doutTag = s.doutTag := by unfold msgCounter; split <;> rfl
@[simp] theorem msgCounter_key : (msgCounter s).key = s.key := by unfold msgCounter; split <;> rfl
@[simp] theorem msgCounter_sk : (msgCounter s).sk = s.sk := by unfold msgCounter; split <;> rfl
@[simp] theorem msgCounter_dinUnwritten : (msgCounter s).dinUnwritten = s.dinUnwritten := by unfold msgCounter; split <;> rfl
@[simp] theorem msgCounter_dinTagUnwritten : (msgCounter s).dinTagUnwritten = s.dinTagUnwritten := by unfold msgCounter; split <;> rfl
@[simp] theorem msgCounter_doutTagUnwritten : (msgCounter s).doutTagUnwritten = s.doutTagUnwritten := by unfold msgCounter; split <;> rfl
@[simp] theorem msgCounter_schedule : (msgCounter s).schedule = s.schedule := by unfold msgCounter; split <;> rfl
@[simp] theorem msgCounter_reads : (msgCounter s).reads = s.reads := by unfold msgCounter; split <;> rfl
@[simp] theorem msgCounter_errLog : (msgCounter s).errLog = s.errLog := by unfold msgCounter; split <;> rfl
@[simp] theorem msgCounter_runFault : (msgCounter s).runFault = s.runFault := by unfold msgCounter; split <;> rfl
@[simp] theorem msgCounter_freeCtr : (msgCounter s).freeCtr = s.freeCtr := by unfold msgCounter; split <;> rfl
@[simp] theorem msgCounter_keyValid : (msgCounter s).status.keyValid = s.status.keyValid := by unfold msgCounter; split <;> rfl
@[simp] theorem msgCounter_msgActive : (msgCounter s).status.msgActive = s.status.msgActive := by unfold msgCounter; split <;> rfl
@[simp] theorem msgCounter_mode : (msgCounter s).status.mode = s.status.mode := by unfold msgCounter; split <;> rfl
@[simp] theorem msgCounter_dir : (msgCounter s).status.dir = s.status.dir := by unfold msgCounter; split <;> rfl
@[simp] theorem msgCounter_doutValid : (msgCounter s).status.doutValid = s.status.doutValid := by unfold msgCounter; split <;> rfl
@[simp] theorem msgCounter_doutPending : (msgCounter s).status.doutPending = s.status.doutPending := by unfold msgCounter; split <;> rfl
@[simp] theorem msgCounter_tailSeen : (msgCounter s).status.tailSeen = s.status.tailSeen := by unfold msgCounter; split <;> rfl
@[simp] theorem msgCounter_busy : (msgCounter s).status.busy = s.status.busy := by unfold msgCounter; split <;> rfl
@[simp] theorem msgCounter_err : (msgCounter s).status.err = s.status.err := by unfold msgCounter; split <;> rfl

theorem msgCounter_of_ecb {s : State} (h : s.status.mode = .ecb) : msgCounter s = s := by simp [msgCounter, h]

theorem msgCounter_of_ctr {s : State} (h : s.status.mode = .ctr) : msgCounter s = advanceCtr s := by
  simp [msgCounter, h]

end MsgCounter

/-- The effect of a command whose checks have all passed (R226). -/
inductive Performed (s : State) : Instr → State → Prop
  | loadKey : s.status.msgActive = false → Performed s .loadKey (loadKeyEffect s)
  | encBlock : s.status.msgActive = false → s.status.keyValid = true → s.status.doutPending = false →
      Performed s .encBlock (encBlockEffect s)
  | decBlock : s.status.msgActive = false → s.status.keyValid = true → s.status.doutPending = false →
      Performed s .decBlock (decBlockEffect s)
  | round (k : BitVec 4) : s.status.msgActive = false → s.status.keyValid = true → s.status.doutPending = false →
      Performed s (.round k) (roundEffect k s)
  | ecbEncStart : s.status.msgActive = false → s.status.keyValid = true →
      Performed s .ecbEncStart (startMsg .ecb .encrypt s)
  | ecbDecStart : s.status.msgActive = false → s.status.keyValid = true →
      Performed s .ecbDecStart (startMsg .ecb .decrypt s)
  | ctrEncStart : s.status.msgActive = false → s.status.keyValid = true →
      Performed s .ctrEncStart (startMsg .ctr .encrypt s)
  | ctrDecStart : s.status.msgActive = false → s.status.keyValid = true →
      Performed s .ctrDecStart (startMsg .ctr .decrypt s)
  | msgBlock : s.status.msgActive = true → s.status.doutPending = false → s.dinTag ≤ 8#4 →
      s.status.tailSeen = false → (s.status.mode = .ctr → s.status.ctrExh = false) →
      Performed s .msgBlock (msgBlockEffect (noteTagRead s))
  | msgEnd : s.status.msgActive = true → Performed s .msgEnd (endMsg s)

/-- A command always answers a next state: nothing changes (NOP, or ignored while ERR is not 0), or ERR is cleared, or
one error is raised (on the state as it is, or with DIN_TAG marked as read), or it is performed (R225). -/
def ExecCases (s : State) (i : Instr) (t : State) : Prop :=
  (t = s ∧ (i = .nop ∨ s.status.err ≠ none)) ∨ (i = .clearErr ∧ t = clearErr s) ∨
    (s.status.err = none ∧ ∃ e, t = raiseErr e s ∨ (i = .msgBlock ∧ t = raiseErr e (noteTagRead s))) ∨
    (s.status.err = none ∧ Performed s i t)

/-- The cases of a command that is its checks and one effect. -/
theorem execCases_of_checked {cs : List Check} {f : State → State} {s : State} {i : Instr}
    (hp : (∀ c ∈ cs, c.fails s = false) → Performed s i (f s)) : ExecCases s i (unlessErr (guarded cs f) s) := by
  rcases checked_cases cs f s with ⟨he, h⟩ | ⟨he, e, -, h⟩ | ⟨he, hc, h⟩
  · exact .inl ⟨h, .inr he⟩
  · exact .inr (.inr (.inl ⟨he, e, .inl h⟩))
  · exact .inr (.inr (.inr ⟨he, h ▸ hp hc⟩))

theorem execMsgBlock_cases (s : State) : ∃ t, execMsgBlock s = .next t ∧ ExecCases s .msgBlock t := by
  refine ⟨_, rfl, ?_⟩
  rcases checked_cases [.inMessage, .resultRead]
    (fun s => guarded [.tagInRange, .noTailYet, .counterLeft] msgBlockEffect (noteTagRead s)) s with
    ⟨he, h⟩ | ⟨he, e, -, h⟩ | ⟨he, hc, h⟩
  · exact .inl ⟨h, .inr he⟩
  · exact .inr (.inr (.inl ⟨he, e, .inl h⟩))
  · rcases guarded_cases [.tagInRange, .noTailYet, .counterLeft] msgBlockEffect (noteTagRead s) with
      ⟨e, -, h2⟩ | ⟨hd, h2⟩
    · exact .inr (.inr (.inl ⟨he, e, .inr ⟨rfl, h.trans h2⟩⟩))
    · have hd := (firstFailing_none_iff _ _).1 hd
      simp only [List.forall_mem_cons, Check.fails] at hc hd
      refine .inr (.inr (.inr ⟨he, (h.trans h2) ▸ .msgBlock (by simpa using hc.1) hc.2.1 ?_ hd.2.1 ?_⟩))
      · exact BitVec.not_lt.1 (of_decide_eq_false hd.1)
      · intro hm
        simpa [hm] using hd.2.2.1

theorem exec_cases (i : Instr) (s : State) : ∃ t, exec i s = .next t ∧ ExecCases s i t := by
  cases i
  case nop => exact ⟨s, rfl, .inl ⟨rfl, .inl rfl⟩⟩
  case clearErr => exact ⟨_, rfl, .inr (.inl ⟨rfl, rfl⟩)⟩
  case msgBlock => exact execMsgBlock_cases s
  case loadKey => exact ⟨_, rfl, execCases_of_checked fun h => .loadKey (h .noMessage (by simp))⟩
  case encBlock =>
    exact ⟨_, rfl, execCases_of_checked fun h => .encBlock (h .noMessage (by simp))
      (by simpa [Check.fails] using h .keyLoaded (by simp)) (h .resultRead (by simp))⟩
  case decBlock =>
    exact ⟨_, rfl, execCases_of_checked fun h => .decBlock (h .noMessage (by simp))
      (by simpa [Check.fails] using h .keyLoaded (by simp)) (h .resultRead (by simp))⟩
  case round k =>
    exact ⟨_, rfl, execCases_of_checked fun h => .round k (h .noMessage (by simp))
      (by simpa [Check.fails] using h .keyLoaded (by simp)) (h .resultRead (by simp))⟩
  case ecbEncStart =>
    exact ⟨_, rfl, execCases_of_checked fun h => .ecbEncStart (h .noMessage (by simp))
      (by simpa [Check.fails] using h .keyLoaded (by simp))⟩
  case ecbDecStart =>
    exact ⟨_, rfl, execCases_of_checked fun h => .ecbDecStart (h .noMessage (by simp))
      (by simpa [Check.fails] using h .keyLoaded (by simp))⟩
  case ctrEncStart =>
    exact ⟨_, rfl, execCases_of_checked fun h => .ctrEncStart (h .noMessage (by simp))
      (by simpa [Check.fails] using h .keyLoaded (by simp))⟩
  case ctrDecStart =>
    exact ⟨_, rfl, execCases_of_checked fun h => .ctrDecStart (h .noMessage (by simp))
      (by simpa [Check.fails] using h .keyLoaded (by simp))⟩
  case msgEnd =>
    exact ⟨_, rfl, execCases_of_checked fun h => .msgEnd (by simpa [Check.fails] using h .inMessage (by simp))⟩

end Sys2Proof.Machine
end

