-- ==== Sys2Proof/Laws/Events.lean ====
section
/-! SUPPORT. What one event and one step can do: the inversion lemmas of host accesses, of the core step and of
`step`. -/

namespace Sys2Proof.Machine

/-- What a host write can do (R222): store one of three registers while BUSY = 0, or raise BUSY or ACCESS. -/
theorem hostWrite_cases (idx : RegIndex) (v : Word) (s : State) :
    (s.status.busy = false ∧ (hostWrite idx v s = latch v s ∨ hostWrite idx v s = storeDin v s ∨
        hostWrite idx v s = storeDinTag v s)) ∨
      hostWrite idx v s = raiseErr .busy s ∨ hostWrite idx v s = raiseErr .access s := by
  unfold hostWrite unlessBusy
  cases s.status.busy <;> split <;> simp

/-- A read of a register that is UNSPECIFIED while BUSY = 1 changes at most the model's records. -/
theorem readResult_state (value : Word) (u : UnspecUse) (c : Bool) (s : State) :
    (readResult value u c s).2 = noteUnspec u c s ∨
      (s.status.busy = true ∧ (readResult value u c s).2 = takeFree (noteUnspec .readBusy true s)) := by
  unfold readResult
  cases s.status.busy <;> simp

/-- What a host read can do to the state (R223, R59): nothing but mark the run or take a free value, raise ACCESS,
or, for DOUT, write DOUT_PENDING, which stays 0 where DOUT_VALID is 0. -/
theorem hostRead_cases (idx : RegIndex) (s : State) :
    (hostRead idx s).2 = s ∨ (hostRead idx s).2 = raiseErr .access s ∨
      ∃ u c, (hostRead idx s).2 = noteUnspec u c s ∨ (hostRead idx s).2 = takeFree (noteUnspec u c s) ∨
        ∃ b, (b = true → s.status.doutValid = true) ∧ ((hostRead idx s).2 = setPending b (noteUnspec u c s) ∨
          (hostRead idx s).2 = setPending b (takeFree (noteUnspec u c s))) := by
  have key : ∀ (w : Word) (u : UnspecUse) (c : Bool), ∃ u' c', (readResult w u c s).2 = noteUnspec u' c' s ∨
      (readResult w u c s).2 = takeFree (noteUnspec u' c' s) := fun w u c => by
    rcases readResult_state w u c s with h | ⟨-, h⟩
    · exact ⟨_, _, .inl h⟩
    · exact ⟨_, _, .inr h⟩
  unfold hostRead
  split
  · exact .inl rfl
  · exact .inl rfl
  · exact .inr (.inr ⟨_, _, .inl rfl⟩)
  · exact .inr (.inr ⟨_, _, .inl rfl⟩)
  · refine .inr (.inr ?_)
    obtain ⟨u, c, h⟩ := key s.dout .readNoResult (!s.status.doutValid)
    refine ⟨u, c, .inr (.inr ⟨s.status.busy && Config.freeBit s.freeCtr && s.status.doutValid, ?_, ?_⟩)⟩
    · simp only [Bool.and_eq_true]; exact fun h => h.2
    · simp only [readDout]
      rcases h with h | h <;> simp [h]
  · obtain ⟨u, c, h⟩ := key (s.doutTag.setWidth 64) .readUnwritten s.doutTagUnwritten
    exact .inr (.inr ⟨u, c, h.imp_right .inl⟩)
  · obtain ⟨u, c, h⟩ := key s.ctr .readBusy false
    exact .inr (.inr ⟨u, c, h.imp_right .inl⟩)
  · obtain ⟨u, c, h⟩ := key s.key .readNoKey (!s.status.keyValid)
    exact .inr (.inr ⟨u, c, h.imp_right .inl⟩)
  · rename_i i _
    obtain ⟨u, c, h⟩ := key (s.sk[i.toNat]'i.isLt) .readNoKey (!s.status.keyValid)
    exact .inr (.inr ⟨u, c, h.imp_right .inl⟩)
  · exact .inr (.inl rfl)

/-- The loop test of WAIT reads the flag BUSY (R24, R81). -/
@[simp] theorem busyBit_word (st : Status) : busyBit st.word = st.busy := by
  simp only [busyBit, Status.word, BitVec.getLsbD_cast, BitVec.getLsbD_append]
  simp

/-- WAIT reads STATUS and, while BUSY = 1, is listed again (R81); it changes nothing else. -/
theorem waitEvent_eq (polls : Nat) (s : State) :
    waitEvent polls s =
      if s.status.busy then listFirst (waitEvents polls) (logRead (indexOfReg .status) s.status.word s)
      else logRead (indexOfReg .status) s.status.word s := by
  have h : hostRead (indexOfReg .status) s = (s.status.word, s) := rfl
  simp only [waitEvent, readEvent, h, busyBit_word]

/-- What the core step can do (R225): nothing while PENDING is empty; else the word is handled and the latch freed. -/
theorem coreStep_cases (s : State) :
    ∃ t, coreStep s = .next t ∧
      ((s.pending = none ∧ t = s) ∨
        ∃ v, s.pending = some v ∧
          ((∃ e, decode v = .error e ∧ t = freeLatch (illegalWord s)) ∨
            ∃ i u, decode v = .ok i ∧ exec i s = .next u ∧ ExecCases s i u ∧ t = freeLatch u)) := by
  cases hp : s.pending with
  | none => exact ⟨s, by simp [coreStep, hp], .inl ⟨rfl, rfl⟩⟩
  | some v =>
    cases hd : decode v with
    | error e => exact ⟨_, by simp only [coreStep, hp, hd], .inr ⟨v, rfl, .inl ⟨e, hd, rfl⟩⟩⟩
    | ok i =>
      obtain ⟨u, hu, hc⟩ := exec_cases i s
      exact ⟨freeLatch u, by simp only [coreStep, hp, hd, hu, thenState], .inr ⟨v, rfl, .inr ⟨i, u, hd, hu, hc, rfl⟩⟩⟩

/-- A pending command is performed, then the latch is freed (R225). -/
theorem coreStep_of_ok {s t : State} {v : Word} {i : Instr} (hp : s.pending = some v) (hd : decode v = .ok i)
    (h : exec i s = .next t) : coreStep s = .next (freeLatch t) := by
  simp only [coreStep]
  rw [hp]
  simp only [hd, h, thenState]

/-- A pending word that is no command (R225). -/
theorem coreStep_of_error {s : State} {v : Word} {e : DecodeError} (hp : s.pending = some v)
    (hd : decode v = .error e) : coreStep s = .next (freeLatch (illegalWord s)) := by
  simp only [coreStep]
  rw [hp]
  simp only [hd]

/-- The step of a state whose next event is listed. -/
theorem step_of_event {s : State} {e : Event} {es : List Event} (h : s.schedule = e :: es) :
    step s = applyEvent e { s with schedule := es } := by
  simp only [step, nextEvent, h]

/-- The step of a state with no event listed is the core's. -/
theorem step_of_nil {s : State} (h : s.schedule = []) : step s = coreStep s := by
  simp only [step, nextEvent, h]

/-- The core's turn, listed or not. -/
theorem step_of_core {s : State} {es : List Event} (h : s.schedule = .core :: es ∨ (s.schedule = [] ∧ es = [])) :
    step s = coreStep { s with schedule := es } := by
  rcases h with h | ⟨h, rfl⟩
  · exact step_of_event h
  · rw [step_of_nil h]
    congr 1
    rw [← h]

/-- What a step can do: a host write, a host read, a reset, a read of WAIT's loop, or the core's step. -/
theorem step_next_cases {s t : State} (h : step s = .next t) :
    ∃ es, (∃ idx v, s.schedule = .write idx v :: es ∧ t = hostWrite idx v { s with schedule := es }) ∨
      (∃ idx, s.schedule = .read idx :: es ∧ t = readEvent idx { s with schedule := es }) ∨
      (s.schedule = .rst :: es ∧ t = resetEvent { s with schedule := es }) ∨
      (∃ polls, s.schedule = .wait polls :: es ∧ t = waitEvent polls { s with schedule := es }) ∨
      ((s.schedule = .core :: es ∨ (s.schedule = [] ∧ es = [])) ∧ coreStep { s with schedule := es } = .next t) := by
  cases hs : s.schedule with
  | nil => exact ⟨[], .inr (.inr (.inr (.inr ⟨.inr ⟨rfl, rfl⟩, (step_of_core (.inr ⟨hs, rfl⟩)).symm.trans h⟩)))⟩
  | cons e es =>
    rw [step_of_event hs] at h
    refine ⟨es, ?_⟩
    cases e with
    | write idx v => exact .inl ⟨idx, v, rfl, (Host.Outcome.next.inj h).symm⟩
    | read idx => exact .inr (.inl ⟨idx, rfl, (Host.Outcome.next.inj h).symm⟩)
    | rst => exact .inr (.inr (.inl ⟨rfl, (Host.Outcome.next.inj h).symm⟩))
    | wait polls => exact .inr (.inr (.inr (.inl ⟨polls, rfl, (Host.Outcome.next.inj h).symm⟩)))
    | core => exact .inr (.inr (.inr (.inr ⟨.inl rfl, h⟩)))

/-- The same for a core step known to answer `t`. -/
theorem coreStep_next_cases {s t : State} (h : coreStep s = .next t) :
    (s.pending = none ∧ t = s) ∨
      ∃ v, s.pending = some v ∧
        ((∃ e, decode v = .error e ∧ t = freeLatch (illegalWord s)) ∨
          ∃ i u, decode v = .ok i ∧ exec i s = .next u ∧ ExecCases s i u ∧ t = freeLatch u) := by
  obtain ⟨t', h', hc⟩ := coreStep_cases s
  obtain rfl := Host.Outcome.next.inj (h.symm.trans h')
  exact hc

end Sys2Proof.Machine
end

