-- ==== Sys2Proof/Laws/PerInstr.lean ====
section
/-! SUPPORT. Facts about every command as syntax, one lemma per constructor: the word of a command has its OP in bits
[7:0], its SKSEL in [11:8] and zeros above (R70, R82). -/

namespace Sys2Proof.Laws.WordShape

/-- The three fields of a command's word. -/
def Statement (i : Instr) : Prop :=
  (encode i).extractLsb' 0 8 = opcodeOf i ∧ (encode i).extractLsb' 8 4 = skselOf i ∧
    (encode i).extractLsb' 12 52 = 0#52

theorem of_fields (i : Instr) : Statement i := by
  have h := Laws.Decode.fieldsOf_wordOf (fieldsOfInstr i)
  exact ⟨congrArg CommandFields.op h, congrArg CommandFields.sksel h, congrArg CommandFields.res h⟩

theorem nop : Statement .nop := of_fields _
theorem loadKey : Statement .loadKey := of_fields _
theorem encBlock : Statement .encBlock := of_fields _
theorem decBlock : Statement .decBlock := of_fields _
theorem round (k : BitVec 4) : Statement (.round k) := of_fields _
theorem ecbEncStart : Statement .ecbEncStart := of_fields _
theorem ecbDecStart : Statement .ecbDecStart := of_fields _
theorem ctrEncStart : Statement .ctrEncStart := of_fields _
theorem ctrDecStart : Statement .ctrDecStart := of_fields _
theorem msgBlock : Statement .msgBlock := of_fields _
theorem msgEnd : Statement .msgEnd := of_fields _
theorem clearErr : Statement .clearErr := of_fields _

end Sys2Proof.Laws.WordShape
end

