-- ==== Sys2Proof/Laws/Permute.lean ====
section
/-! SUPPORT. What `permute` (R12) puts at each bit position, and how it meets the bitwise operations. -/

namespace Sys2Proof.Laws.Permute

open Sys2Proof.Machine

variable {n m : Nat}

/-- R12 read from the most significant end: output position k+1 is input position T(k+1). -/
theorem permute_getMsbD (T : List Nat) (x : BitVec n) (h : T.length = m) (k : Nat) :
    (permute m T x).getMsbD k = (T.map fun p => x.getLsbD (n - p)).getD k false := by
  subst h
  have : ((BitVec.ofBoolListBE (T.map fun p => x.getLsbD (n - p))).setWidth T.length).getMsbD k
      = (BitVec.ofBoolListBE (T.map fun p => x.getLsbD (n - p))).getMsbD k := by
    simp [BitVec.getMsbD_setWidth]
  unfold permute
  rw [this, BitVec.getMsbD_ofBoolListBE]

/-- R12 as it is written: bit `m - k` of the result is bit `n - T(k)` of the input. -/
theorem permute_getLsbD (T : List Nat) (x : BitVec n) (h : T.length = m) {j : Nat} (hj : j < m) :
    (permute m T x).getLsbD j = x.getLsbD (n - T.getD (m - 1 - j) 0) := by
  have hk : m - 1 - j < T.length := by omega
  have := permute_getMsbD T x h (m - 1 - j)
  rw [BitVec.getMsbD_eq_getLsbD] at this
  have e : m - 1 - (m - 1 - j) = j := by omega
  have hlt : m - 1 - j < m := by omega
  simp only [e, hlt, decide_true, Bool.true_and] at this
  rw [this]
  simp [List.getD_eq_getElem?_getD, hk]

/-- Bit selection commutes with exclusive-or. -/
theorem permute_xor (T : List Nat) (x y : BitVec n) (h : T.length = m) :
    permute m T (x ^^^ y) = permute m T x ^^^ permute m T y := by
  apply BitVec.eq_of_getLsbD_eq
  intro j hj
  simp only [BitVec.getLsbD_xor, permute_getLsbD T _ h hj]

/-- Bit selection commutes with complement where every entry is a position of the input. -/
theorem permute_not (T : List Nat) (x : BitVec n) (h : T.length = m) (hT : ∀ p ∈ T, 1 ≤ p ∧ p ≤ n) :
    permute m T (~~~x) = ~~~(permute m T x) := by
  apply BitVec.eq_of_getLsbD_eq
  intro j hj
  have hk : m - 1 - j < T.length := by omega
  have hp := hT (T.getD (m - 1 - j) 0) (by simp [List.getD_eq_getElem?_getD, hk])
  have hlt : n - T.getD (m - 1 - j) 0 < n := by omega
  simp only [BitVec.getLsbD_not, permute_getLsbD T _ h hj, hj, hlt, decide_true, Bool.true_and]

end Sys2Proof.Laws.Permute
end

