-- ==== Sys2Proof/Tests/Slice0.lean ====
section
/-! SUPPORT. The model's own tests: ill-formed terms that the checks refuse, the words of the encoding written out bit by
bit, worked values of spec/95_test_vectors.md and of the rules, and for every statement of the obligations that has
hypotheses a concrete state and operands that meet them. -/

open Sys2Proof Sys2Proof.Machine

namespace Sys2Proof.Tests

/-! ## Small states -/

/-- Right after reset, LOAD_KEY of the key 0 and writes of DIN and DIN_TAG (tag 8). -/
def ready : State :=
  { State.reset with
    status := { Status.reset with keyValid := true }, dinUnwritten := false, dinTagUnwritten := false, dinTag := 8#4 }

/-- A message active in a mode. -/
def active (m : Mode) : State := { ready with status := { ready.status with msgActive := true, mode := m } }

/-- A word latched. -/
def pend (v : Word) (s : State) : State := { s with pending := some v, status := { s.status with busy := true } }

/-- Events listed. -/
def due (es : List Event) (s : State) : State := { s with schedule := es }

/-- An error recorded. -/
def failed (e : ErrCode) (s : State) : State := { s with status := { s.status with err := some e } }

/-- A result unread. -/
def unread (s : State) : State := { s with status := { s.status with doutValid := true, doutPending := true } }

/-- A message whose short block has passed, and one whose counter is used up. -/
def tailed : State := { active .ecb with status := { (active .ecb).status with tailSeen := true } }
def exhausted : State := { active .ctr with status := { (active .ctr).status with ctrExh := true } }

/-- A key's subkeys under one of the two schedules. -/
def keyed (which : KeySchedule) (k : Word) : State :=
  { ready with cfg := { Config.default with keySchedule := which }, key := k, sk := (schedule which k).map fun x => x.setWidth 64 }

/-- A value of the state after one command. -/
def after {α : Type} (i : Instr) (s : State) (f : State → α) : Option α := (nextOf (exec i s)).map f

/-! ## The checks on syntax refuse (R73, R74, R75, R202) -/

theorem test_wf_refuses_reserved_bit : ({ op := 0x01#8, sksel := 0#4, res := 1#52 } : CommandFields).wellFormed = false := by
  decide
theorem test_wf_refuses_reserved_opcode : ({ op := 0x0C#8, sksel := 0#4, res := 0#52 } : CommandFields).wellFormed = false := by
  decide
theorem test_wf_refuses_sksel_outside_round :
    ({ op := 0x05#8, sksel := 1#4, res := 0#52 } : CommandFields).wellFormed = false := by decide
theorem test_wf_accepts_round_15 : ({ op := 0x04#8, sksel := 15#4, res := 0#52 } : CommandFields).wellFormed = true := by
  decide
theorem test_framedMessage_refuses_tag_9 : framedMessage [(0#64, 9#4)] = false := by decide
theorem test_framedMessage_refuses_short_block_before_last : framedMessage [(0#64, 7#4), (0#64, 8#4)] = false := by decide

/-! ## Words written out from R70 and R71 -/

theorem test_decode_nop :
    decode 0b0000000000000000000000000000000000000000000000000000000000000000#64 = .ok .nop := by decide
theorem test_decode_load_key :
    decode 0b0000000000000000000000000000000000000000000000000000000000000001#64 = .ok .loadKey := by decide
theorem test_decode_enc_block :
    decode 0b0000000000000000000000000000000000000000000000000000000000000010#64 = .ok .encBlock := by decide
theorem test_decode_dec_block :
    decode 0b0000000000000000000000000000000000000000000000000000000000000011#64 = .ok .decBlock := by decide
theorem test_decode_round_0 :
    decode 0b0000000000000000000000000000000000000000000000000000000000000100#64 = .ok (.round 0#4) := by decide
theorem test_decode_round_5 :
    decode 0b0000000000000000000000000000000000000000000000000000010100000100#64 = .ok (.round 5#4) := by decide
theorem test_decode_round_15 :
    decode 0b0000000000000000000000000000000000000000000000000000111100000100#64 = .ok (.round 15#4) := by decide
theorem test_decode_ecb_enc_start :
    decode 0b0000000000000000000000000000000000000000000000000000000000000101#64 = .ok .ecbEncStart := by decide
theorem test_decode_ecb_dec_start :
    decode 0b0000000000000000000000000000000000000000000000000000000000000110#64 = .ok .ecbDecStart := by decide
theorem test_decode_ctr_enc_start :
    decode 0b0000000000000000000000000000000000000000000000000000000000000111#64 = .ok .ctrEncStart := by decide
theorem test_decode_ctr_dec_start :
    decode 0b0000000000000000000000000000000000000000000000000000000000001000#64 = .ok .ctrDecStart := by decide
theorem test_decode_msg_block :
    decode 0b0000000000000000000000000000000000000000000000000000000000001001#64 = .ok .msgBlock := by decide
theorem test_decode_msg_end :
    decode 0b0000000000000000000000000000000000000000000000000000000000001010#64 = .ok .msgEnd := by decide
theorem test_decode_clear_err :
    decode 0b0000000000000000000000000000000000000000000000000000000000001011#64 = .ok .clearErr := by decide
theorem test_decode_reserved_opcode : decode 0x000000000000000C#64 = .error .reservedOpcode := by decide
theorem test_decode_sksel_outside_round : decode 0x0000000000000105#64 = .error .skselOutsideRound := by decide
theorem test_decode_reserved_bit : decode 0x0000000100000001#64 = .error .reservedBits := by decide
theorem test_decodeTableWord_round : decodeTableWord 64 0xF04 = some (.round 15#4) := by decide

/-! ## Worked values -/

/-- R125's example. -/
theorem test_load_key_simplified :
    after .loadKey { ready with din := 0x133457799BBCDFF1#64 } (fun t => (t.key, t.sk[0], t.sk[1], t.sk[15]))
      = some (0x133457799BBCDFF1#64, 0x57799BBCDFF1#64, 0xAEF33779BFE2#64, 0xCDDE6FF8899A#64) := by decide +kernel
/-- 95_test_vectors.md, table KS-L: LOW56. -/
theorem test_load_key_low56 :
    after .loadKey { ready with din := 0x133457799BBCDFF1#64, cfg := { Config.default with keyInputMask := .low56 } }
      (fun t => (t.key, t.sk[15])) = some (0x003457799BBCDFF1#64, 0xCDDE6FF8801A#64) := by decide +kernel
/-- 95_test_vectors.md section 1.2, row 1: the canonical schedule. -/
theorem test_enc_block_canonical :
    after .encBlock { keyed .canonical 0x133457799BBCDFF1#64 with din := 0x0123456789ABCDEF#64 } (·.dout)
      = some 0x85E813540F0AB405#64 := by decide +kernel
/-- R167's second example, and R168's. -/
theorem test_enc_block_simplified :
    after .encBlock { keyed .simplified 0x133457799BBCDFF1#64 with din := 0x0123456789ABCDEF#64 } (·.dout)
      = some 0xE3D543F4FB9136D0#64 := by decide +kernel
theorem test_dec_block_simplified :
    after .decBlock { keyed .simplified 0x133457799BBCDFF1#64 with din := 0xE3D543F4FB9136D0#64 } (·.dout)
      = some 0x0123456789ABCDEF#64 := by decide +kernel
/-- R146's examples. -/
theorem test_round_0 :
    after (.round 0#4) { keyed .simplified 0x133457799BBCDFF1#64 with din := 0x12345678#64 } (·.dout)
      = some 0x05851F0B#64 := by decide +kernel
theorem test_round_15 :
    after (.round 15#4) { keyed .simplified 0x133457799BBCDFF1#64 with din := 0x12345678#64 } (·.dout)
      = some 0x9B25B12A#64 := by decide +kernel
/-- The STATUS values of the examples of R182, R183, R184 and R194. -/
theorem test_ecb_enc_start_status : after .ecbEncStart ready (·.status.word) = some 0x3#64 := by decide +kernel
theorem test_ecb_dec_start_status : after .ecbDecStart ready (·.status.word) = some 0xB#64 := by decide +kernel
theorem test_ctr_enc_start_status : after .ctrEncStart ready (·.status.word) = some 0x7#64 := by decide +kernel
theorem test_ctr_dec_start_status : after .ctrDecStart ready (·.status.word) = some 0xF#64 := by decide +kernel
/-- R185's example. -/
theorem test_msg_block_ctr :
    after .msgBlock
      { keyed .simplified 0x133457799BBCDFF1#64 with
        din := 0x4142434445464748#64, status := { ready.status with msgActive := true, mode := .ctr } }
      (fun t => (t.dout, t.doutTag, t.ctr)) = some (0xA7A2E1A0D9A058EC#64, 8#4, 1#64) := by decide +kernel
/-- R247: STATE before NO_KEY, NO_KEY before UNREAD. -/
theorem test_error_priority_state :
    after .encBlock { active .ecb with status := { (active .ecb).status with keyValid := false } } (·.status.err)
      = some (some .state) := by decide +kernel
theorem test_error_priority_no_key :
    after .encBlock { unread ready with status := { (unread ready).status with keyValid := false } } (·.status.err)
      = some (some .noKey) := by decide +kernel
/-- R193: the counter stays readable after MSG_END. -/
theorem test_msg_end_keeps_ctr : after .msgEnd { active .ctr with ctr := 2#64 } (fun t => (t.ctr, t.status.msgActive))
    = some (2#64, false) := by decide +kernel
/-- R220's and R221's examples. -/
theorem test_nop_status : after .nop ready (·.status.word) = some 1#64 := by decide +kernel
theorem test_clear_err_status : (failed .state ready).status.word = 0x3001#64 ∧
    after .clearErr (failed .state ready) (·.status.word) = some 1#64 := by decide +kernel
/-- 40_tables.md R106's reading of row and column: input 0b000010 is row 0, column 1 of S1, whose entry is 4. -/
theorem test_sbox_row_and_column : sbox tableS1 0b000010#6 = 4#4 ∧ sboxRow 0b100001#6 = 3 := by decide
/-- R200: the sentinel of the empty input, and one chunk of seven bytes. -/
theorem test_frame_empty : frame [] = [(0#64, 0#4)] := by decide
theorem test_frame_seven_bytes :
    frame [1#8, 2#8, 3#8, 4#8, 5#8, 6#8, 7#8] = [(0x0102030405060700#64, 7#4)] := by decide

/-! ## Witnesses: states and operands that meet the hypotheses of the statements -/

/-- IllegalWordRecordsIllegalOnly: the lowest and the highest bit of RES, the first and the last reserved OP, the least
SKSEL beside the first and the last OP that forbid it. -/
theorem witness_IllegalWord :
    (∀ v ∈ [0x1000#64, 0x8000000000000000#64], (due [.core] (pend v ready)).pending = some v ∧
      v.extractLsb' 12 52 ≠ 0#52) ∧
    (∀ v ∈ [0x0C#64, 0xFF#64], (due [.core] (pend v ready)).pending = some v ∧ 0x0C#8 ≤ v.extractLsb' 0 8) ∧
    (∀ v ∈ [0x100#64, 0x10B#64], (due [.core] (pend v ready)).pending = some v ∧
      v.extractLsb' 0 8 ≠ 0x04#8 ∧ v.extractLsb' 8 4 ≠ 0#4) ∧
    (∀ v : Word, (due [.core] (pend v ready)).schedule = [.core] ∧ (due [.core] (pend v ready)).status.err = none) :=
  ⟨by rw [List.forall_mem_cons, List.forall_mem_singleton]; decide,
    by rw [List.forall_mem_cons, List.forall_mem_singleton]; decide,
    by rw [List.forall_mem_cons, List.forall_mem_singleton]; decide, fun _ => ⟨rfl, rfl⟩⟩

/-- ResetEventValues: RST with a command pending. -/
theorem witness_ResetEvent : (due [.rst, .core] (pend 1#64 ready)).schedule = .rst :: [.core] ∧
    (due [.rst, .core] (pend 1#64 ready)).pending ≠ none := by decide

theorem ready_inv : ready.Inv :=
  ⟨by decide, by decide, by decide, by decide, by decide⟩

theorem active_inv (m : Mode) : (active m).Inv := by
  cases m <;> exact ⟨by decide, by decide, by decide, by decide, by decide⟩

/-- InvKeptByEveryStep, and ValidFlagsClearedOnlyByReset: a core step with MSG_END pending. -/
theorem witness_InvKept :
    (due [.core] (pend 0xA#64 (active .ecb))).Inv ∧
      (∃ t, step (due [.core] (pend 0xA#64 (active .ecb))) = .next t ∧ t.status.msgActive = false) :=
  ⟨⟨by decide, by decide, by decide, by decide, by decide⟩, _, rfl, by decide⟩

/-- CoreStepRunsDecodedCommand: the core's turn listed, and not listed. -/
theorem witness_CoreStep :
    (due [.core] (pend 0xA#64 ready)).schedule = .core :: [] ∧ (pend 0xA#64 ready).schedule = [] ∧
      (pend 0xA#64 ready).pending = some 0xA#64 ∧ decode 0xA#64 = .ok .msgEnd := by decide

/-- RaiseErrRecordsAndAborts: ERR at 0, and at a code. -/
theorem witness_RaiseErr : ready.status.err = none ∧ (failed .busy ready).status.err ≠ none := by decide

/-- StickyErrIgnoresCommands: LOAD_KEY, and a word that is no command, while ERR is not 0. -/
theorem witness_StickyErr : ∀ v ∈ [0x1#64, 0x10B#64],
    let s := due [.core] (pend v (failed .access ready))
    s.schedule = .core :: [] ∧ s.pending = some v ∧ s.status.err ≠ none ∧ v ≠ encode .nop ∧ v ≠ encode .clearErr := by
  rw [List.forall_mem_cons, List.forall_mem_singleton]; decide

/-- RefusedCommandIsPrecise: MSG_END with no message. -/
theorem witness_RefusedCommand : ∃ t, exec .msgEnd ready = .next t ∧ t.errLog ≠ ready.errLog := ⟨_, rfl, by decide⟩

/-- FirstErrorKeptUntilCleared: a step that keeps the error, CLEAR_ERR, and RST. -/
theorem witness_FirstErrorKept :
    (∃ t, step (due [.write 0x04#8 0#64] (failed .state ready)) = .next t ∧ t.status.err = some .state) ∧
    (∃ t, step (due [.core] (pend 0xB#64 (failed .state ready))) = .next t ∧ t.status.err = none) ∧
    (∃ t, step (due [.rst] (failed .state ready)) = .next t ∧ t.status.err = none) :=
  ⟨⟨_, rfl, by decide⟩, ⟨_, rfl, by decide⟩, ⟨_, rfl, by decide⟩⟩

/-- RaisedErrorAbortsMessage: a write of a read-only register during a message. -/
theorem witness_RaisedError :
    let s := due [.write 0x01#8 0#64] (active .ctr)
    ∃ t, step s = .next t ∧ t.errLog ≠ s.errLog := ⟨_, rfl, by decide⟩

/-- HostWriteEffects: CMD, DIN and DIN_TAG with BUSY = 1 and with BUSY = 0, and the other indices at their ends. -/
theorem witness_HostWrite :
    (∀ idx ∈ [0x00#8, 0x02#8, 0x03#8], (due [.write idx 9#64] ready).schedule = .write idx 9#64 :: [] ∧
      (due [.write idx 9#64] ready).status.busy = false ∧ (due [.write idx 9#64] (pend 0#64 ready)).status.busy = true) ∧
    (∀ idx ∈ [0x01#8, 0x04#8, 0xFF#8], (due [.write idx 9#64] ready).schedule = .write idx 9#64 :: [] ∧
      idx ≠ 0x00#8 ∧ idx ≠ 0x02#8 ∧ idx ≠ 0x03#8) := by decide

/-- OperandsStableWhileBusy: a write of DIN while BUSY = 1. -/
theorem witness_OperandsStable :
    let s := due [.write 0x02#8 5#64] (pend 2#64 ready)
    ∃ t, step s = .next t ∧ s.status.busy = true ∧ t.status.busy = true ∧ s.pending ≠ none :=
  ⟨_, rfl, by decide, by decide, by decide⟩

/-- HostReadEffects: every register, with BUSY = 0. -/
theorem witness_HostRead :
    (∀ idx ∈ [0x00#8, 0x01#8, 0x02#8, 0x03#8, 0x04#8, 0x05#8, 0x06#8, 0x07#8, 0x10#8, 0x1F#8],
      (due [.read idx] ready).schedule = .read idx :: [] ∧ (due [.read idx] ready).status.busy = false) ∧
    0x10#8 + BitVec.ofNat 8 (0 : Fin 16).val = 0x10#8 ∧ 0x10#8 + BitVec.ofNat 8 (15 : Fin 16).val = 0x1F#8 := by decide

/-- HostReadWhileBusy: STATUS, and the two ranges at their ends. -/
theorem witness_HostReadWhileBusy :
    (due [.read 0x01#8] (pend 0#64 ready)).schedule = .read 0x01#8 :: [] ∧
    ∀ idx ∈ [0x04#8, 0x07#8, 0x10#8, 0x1F#8],
      (due [.read idx] (pend 0#64 ready)).schedule = .read idx :: [] ∧
      (due [.read idx] (pend 0#64 ready)).status.busy = true ∧
      ((0x04#8 ≤ idx ∧ idx ≤ 0x07#8) ∨ (0x10#8 ≤ idx ∧ idx ≤ 0x1F#8)) := by decide

/-- ReservedAndReadOnlyAccesses and RegisterMap: the reserved ranges at their ends, the read-only registers, CMD. -/
theorem witness_ReservedAccesses :
    (∀ idx ∈ [0x08#8, 0x0F#8, 0x20#8, 0xFF#8], (due [.read idx] ready).schedule = .read idx :: [] ∧
      ((0x08#8 ≤ idx ∧ idx ≤ 0x0F#8) ∨ 0x20#8 ≤ idx)) ∧
    (∀ idx ∈ [0x01#8, 0x04#8, 0x1F#8, 0xFF#8], (due [.write idx 0#64] ready).schedule = .write idx 0#64 :: [] ∧
      (idx = 0x01#8 ∨ 0x04#8 ≤ idx)) ∧
    (due [.read 0x00#8] ready).schedule = .read 0x00#8 :: [] := by decide

/-- LoadKeyEffectAndError: no message, and a message. -/
theorem witness_LoadKey : ready.status.err = none ∧ ready.status.msgActive = false ∧
    (active .ecb).status.err = none ∧ (active .ecb).status.msgActive = true := by decide

/-- KeyInputMaskClearsTopByte: the largest value whose top byte is zero. -/
theorem witness_KeyInputMask : (0x00FFFFFFFFFFFFFF#64).extractLsb' 56 8 = 0#8 := by decide

/-- UnusedKeyBitsReachNoSubkey: two different keys that agree in every bit but 48, and in every bit but one of a byte's
least significant ones. -/
theorem witness_UnusedKeyBits :
    (0#64 ≠ 0x0001000000000000#64 ∧
      ∀ j : Nat, j ≠ 48 → (0#64).getLsbD j = (0x0001000000000000#64).getLsbD j) ∧
    (0#64 ≠ 0x0000000000000001#64 ∧
      ∀ j : Nat, j % 8 ≠ 0 → (0#64).getLsbD j = (0x0000000000000001#64).getLsbD j) := by
  refine ⟨⟨by decide, fun j hj => ?_⟩, by decide, fun j hj => ?_⟩
  · by_cases h : j < 64
    · revert hj; revert h; revert j; decide
    · rw [BitVec.getLsbD_of_ge _ _ (by omega), BitVec.getLsbD_of_ge _ _ (by omega)]
  · by_cases h : j < 64
    · revert hj; revert h; revert j; decide
    · rw [BitVec.getLsbD_of_ge _ _ (by omega), BitVec.getLsbD_of_ge _ _ (by omega)]

/-- TransformBlockRoundsAndKeyOrder: the halves of the rounds of any block, subkeys and direction. -/
def halves (b : Word) (sks : Vector Subkey 16) (forward : Bool) : Nat → Half × Half
  | 0 => ((permute 64 tableIP b).extractLsb' 32 32, (permute 64 tableIP b).extractLsb' 0 32)
  | n + 1 =>
    let lr := halves b sks forward n
    (lr.2, lr.1 ^^^ feistel lr.2 ((if forward then sks.toList else sks.toList.reverse).getD n 0#48))

theorem witness_TransformBlockRounds :
    let sks : Vector Subkey 16 := Vector.ofFn fun n : Fin 16 => BitVec.ofNat 48 n.val
    ∀ forward : Bool,
      let l := fun n => (halves 5#64 sks forward n).1
      let r := fun n => (halves 5#64 sks forward n).2
      l 0 = (permute 64 tableIP 5#64).extractLsb' 32 32 ∧ r 0 = (permute 64 tableIP 5#64).extractLsb' 0 32 ∧
      ∀ n : Fin 16, l (n.val + 1) = r n.val ∧
        r (n.val + 1) = l n.val ^^^ feistel (r n.val) (if forward then sks[n] else sks[15 - n.val]) := by
  intro sks forward
  refine ⟨rfl, rfl, fun n => ⟨rfl, ?_⟩⟩
  have h : (if forward then sks.toList else sks.toList.reverse).getD n.val 0#48
      = if forward then sks[n] else sks[15 - n.val] := by revert n; cases forward <;> decide
  simp only [halves, h]

/-- PalindromicSubkeysMakeDirectionsEqual: a subkey sequence that reads the same both ways and is not constant. -/
theorem witness_PalindromicSubkeys :
    let sks : Vector Subkey 16 := Vector.ofFn fun n : Fin 16 => BitVec.ofNat 48 (min n.val (15 - n.val))
    (∀ n : Fin 16, sks[n] = sks[15 - n.val]) ∧ sks[0] ≠ sks[7] := by decide

/-- RoundCommand and EncBlockAndDecBlockCommands: accepted, and each refusal. -/
theorem witness_BlockCommands :
    (ready.status.err = none ∧ ready.status.msgActive = false ∧ ready.status.keyValid = true ∧
      ready.status.doutPending = false) ∧
    ((active .ecb).status.err = none ∧ (active .ecb).status.msgActive = true) ∧
    (State.reset.status.err = none ∧ State.reset.status.msgActive = false ∧ State.reset.status.keyValid = false) ∧
    ((unread ready).status.err = none ∧ (unread ready).status.msgActive = false ∧
      (unread ready).status.keyValid = true ∧ (unread ready).status.doutPending = true) := by decide

/-- StartCommands: a command with its word, MODE and DIR, and another word with the same OP. (Its states, those of
witness_BlockCommands.) -/
theorem witness_StartCommands :
    (Instr.ctrDecStart = .ctrDecStart ∧ 0x8#64 = 0x8#64 ∧ Mode.ctr = .ctr ∧ Dir.decrypt = .decrypt) ∧
    (0x108#64).extractLsb' 0 8 = (0x8#64).extractLsb' 0 8 ∧ 0x108#64 ≠ 0x8#64 := by decide

/-- MsgBlockPerformed: the largest tag and the smallest, in each mode. -/
theorem witness_MsgBlockPerformed : ∀ t ∈ [0#4, 8#4], ∀ m ∈ [Mode.ecb, Mode.ctr],
    let s := { active m with dinTag := t }
    s.status.err = none ∧ s.status.msgActive = true ∧ s.status.doutPending = false ∧ s.dinTag ≤ 8#4 ∧
      s.status.tailSeen = false ∧ s.status.mode = m ∧ s.status.ctrExh = false := by decide

/-- MsgBlockRefusals: each clause, the tags at the ends of their ranges. -/
theorem witness_MsgBlockRefusals :
    (ready.status.err = none ∧ ready.status.msgActive = false) ∧
    ((unread (active .ecb)).status.err = none ∧ (unread (active .ecb)).status.msgActive = true ∧
      (unread (active .ecb)).status.doutPending = true) ∧
    (∀ t ∈ [9#4, 15#4],
      let s := { active .ecb with dinTag := t }
      s.status.err = none ∧ s.status.msgActive = true ∧ s.status.doutPending = false ∧ 8#4 < s.dinTag) ∧
    (tailed.status.err = none ∧ tailed.status.msgActive = true ∧ tailed.status.doutPending = false ∧
      tailed.dinTag ≤ 8#4 ∧ tailed.status.tailSeen = true) ∧
    (exhausted.status.err = none ∧ exhausted.status.msgActive = true ∧ exhausted.status.doutPending = false ∧
      exhausted.dinTag ≤ 8#4 ∧ exhausted.status.tailSeen = false ∧ exhausted.status.mode = .ctr ∧
      exhausted.status.ctrExh = true) := by decide

/-- MsgEndCommand: both states of the sequencer, and another word with MSG_END's OP. -/
theorem witness_MsgEnd : (active .ecb).status.err = none ∧ (active .ecb).status.msgActive = true ∧
    ready.status.err = none ∧ ready.status.msgActive = false ∧
    (0x10A#64).extractLsb' 0 8 = 0x0A#8 ∧ 0x10A#64 ≠ 0xA#64 := by decide

/-- EmptyMessageProducesNothing. -/
theorem witness_EmptyMessage : (unread ready).status.err = none ∧ (unread ready).status.msgActive = false ∧
    (unread ready).status.keyValid = true := by decide

/-- ShortBlockMustBeLast: a tag of 7, and the largest legal tag next. -/
theorem witness_ShortBlock :
    let s := { active .ecb with dinTag := 7#4 }
    ∃ t, exec .msgBlock s = .next t ∧ s.status.msgActive = true ∧ t.errLog = s.errLog ∧ s.status.err = none ∧
      s.dinTag < 8#4 ∧ (8#64).extractLsb' 0 4 ≤ 8#4 :=
  ⟨_, rfl, by decide, by decide, by decide, by decide, by decide⟩

/-- CtrBlockAfterLastCounterIsRefused: the last counter value. -/
theorem witness_Counter :
    let s := { active .ctr with ctr := M64 }
    ∃ t, exec .msgBlock s = .next t ∧ s.status.msgActive = true ∧ t.errLog = s.errLog ∧ s.status.err = none ∧
      s.status.mode = .ctr ∧ s.ctr = M64 ∧ s.dinTag = 8#4 ∧ (0#64).extractLsb' 0 4 ≤ 8#4 :=
  ⟨_, rfl, by decide, by decide, by decide, by decide, by decide, by decide, by decide⟩

/-- EcbMessageOutputs, CtrMessageOutputs and MessageRoundTrip: a message of two blocks, the last short, one poll a WAIT. -/
theorem witness_Messages : ∀ start ∈ [Instr.ecbEncStart, .ecbDecStart, .ctrEncStart, .ctrDecStart],
    let blocks : List (Word × Tag) := [(1#64, 8#4), (2#64, 0#4)]
    let s := due (messageEvents start blocks 1) ready
    s.schedule = messageEvents start blocks 1 ∧ framedMessage blocks = true ∧ s.reads = [] ∧
      blocks.length ≤ 2 ^ 64 ∧ s.status.err = none ∧ s.status.keyValid = true ∧ s.status.msgActive = false ∧
      s.status.doutPending = false ∧ s.status.busy = false ∧ s.pending = none := by
  intro start h
  refine ⟨rfl, by decide, rfl, by norm_num, rfl, rfl, rfl, rfl, rfl, rfl⟩

/-- WaitReadsUntilNotBusy: a WAIT with BUSY = 0 and with BUSY = 1, an idle state; LatchEmptiesInTheEnd. -/
theorem witness_Wait :
    (due [.wait 0] ready).schedule = .wait 0 :: [] ∧ (due [.wait 0] ready).status.busy = false ∧
      (due [.wait 1] (pend 1#64 ready)).schedule = .wait 1 :: [] ∧
      (due [.wait 1] (pend 1#64 ready)).status.busy = true ∧ (pend 1#64 ready).pending ≠ none := by decide

/-- R81: with BUSY = 0 a WAIT reads STATUS once, whatever its argument. -/
theorem test_wait_idle_reads_once : ((nextOf (step (due (waitEvents 3) ready))).map fun t => (t.schedule, t.reads))
    = some ([], [(0x01#8, 1#64)]) := by decide +kernel
/-- R81: with BUSY = 1 the loop goes on. -/
theorem test_wait_busy_repeats :
    ((nextOf (step (due (waitEvents 1) (pend 0#64 ready)))).map fun t => (t.schedule, t.reads))
    = some ([.core, .wait 0], [(0x01#8, 0x101#64)]) := by decide +kernel

/-- MessageLifecycle: a step that opens a message, and the three ways one ends. -/
theorem witness_MessageLifecycle :
    (∃ t, step (due [.core] (pend 5#64 ready)) = .next t ∧ t.status.msgActive = true) ∧
    ready.status.msgActive = false ∧ (active .ecb).status.msgActive = true ∧
    (∃ t, step (due [.core] (pend 0xA#64 (active .ecb))) = .next t ∧ t.status.msgActive = false) ∧
    (∃ t, step (due [.core] (pend 1#64 (active .ecb))) = .next t ∧ t.status.msgActive = false) ∧
    (∃ t, step (due [.rst] (active .ecb)) = .next t ∧ t.status.msgActive = false) :=
  ⟨⟨_, rfl, by decide⟩, by decide, by decide, ⟨_, rfl, by decide⟩, ⟨_, rfl, by decide⟩, ⟨_, rfl, by decide⟩⟩

/-- KeyConstantDuringMessage: LOAD_KEY pending in a message. -/
theorem witness_KeyConstant :
    let s := due [.core] (pend 1#64 (active .ecb))
    (∃ t, step s = .next t) ∧ s.status.msgActive = true ∧ ∀ es, s.schedule ≠ .rst :: es :=
  ⟨⟨_, rfl⟩, by decide, fun _ h => by cases h⟩

/-- NoResultOverwrittenUnread: ENC_BLOCK pending with a result unread. -/
theorem witness_NoResultOverwritten :
    let s := due [.core] (pend 2#64 (unread ready))
    (∃ t, step s = .next t) ∧ s.status.doutPending = true ∧ ∀ es, s.schedule ≠ .rst :: es :=
  ⟨⟨_, rfl⟩, by decide, fun _ h => by cases h⟩

/-- SequencerStateWriters: CTR_DEC_START changes CTR, MODE and DIR; a CTR block changes CTR. -/
theorem witness_SequencerWriters :
    let s := due [.core] (pend 8#64 { ready with ctr := 5#64 })
    let u := due [.core] (pend 9#64 (active .ctr))
    (∃ t, step s = .next t ∧ t.ctr ≠ s.ctr ∧ t.status.mode ≠ s.status.mode ∧ t.status.dir ≠ s.status.dir) ∧
      (∃ t, step u = .next t ∧ t.ctr ≠ u.ctr) ∧ (∀ es, s.schedule ≠ .rst :: es) ∧ (∀ es, u.schedule ≠ .rst :: es) :=
  ⟨⟨_, rfl, by decide, by decide, by decide⟩, ⟨_, rfl, by decide⟩, (fun _ h => by cases h), fun _ h => by cases h⟩

/-- CleanRunIgnoresUnspecifiedValues: two reset states that differ in every register the spec leaves UNSPECIFIED, and the
host's write of DIN next. -/
theorem witness_CleanRun :
    let s := due [.write 0x02#8 7#64] State.reset
    let s' := { s with din := 1#64, dinTag := 2#4, doutTag := 3#4, dout := 4#64, key := 5#64 }
    s.Inv ∧ s.SameDefined s' ∧ ∃ t, step s = .next t ∧ t.cleanRun :=
  ⟨⟨by decide, by decide, by decide, by decide, by decide⟩,
    ⟨rfl, by decide, by decide, by decide, by decide, by decide⟩, _, rfl, rfl⟩

/-- OutOfRangeRealSizeFailsFast: the least and the greatest tag out of range, in the last and in another block; the counts
at the ends of their range; and a MSG_BLOCK that changes DOUT_TAG. -/
theorem witness_OutOfRange :
    (∃ b ∈ [(0#64, 9#4), (0#64, 8#4)], 8#4 < b.2) ∧ (∃ b ∈ [(0#64, 8#4), (0#64, 15#4)], 8#4 < b.2) ∧
    7#8 < (0x08#64).extractLsb' 0 8 ∧ 7#8 < (0xFF#64).extractLsb' 0 8 ∧
    ∃ t, exec .msgBlock (active .ecb) = .next t ∧ t.doutTag ≠ (active .ecb).doutTag :=
  ⟨by decide, by decide, by decide, by decide, _, rfl, by decide⟩

end Sys2Proof.Tests
end

section
/-! PROOFS. The register map, the STATUS word and the state right after reset (10_state.md R20, R24, R45). -/

namespace Sys2Proof.Machine

/-! ## The register map -/

theorem indexOfReg_sk_toNat (i : BitVec 4) : (indexOfReg (.sk i)).toNat = 0x10 + i.toNat := by
  simp only [indexOfReg, BitVec.toNat_cast, BitVec.toNat_append]
  exact (Nat.shiftLeft_add_eq_or_of_lt i.isLt 1).symm

/-- The high nibble of an index is 1 exactly in the range of SK[0..15] (R20). -/
theorem highNibble_eq_one_iff (idx : RegIndex) :
    idx.extractLsb' 4 4 = 0x1#4 ↔ 0x10 ≤ idx.toNat ∧ idx.toNat < 0x20 := by
  have hlt := idx.isLt
  rw [← BitVec.toNat_inj, BitVec.extractLsb'_toNat, BitVec.toNat_ofNat, Nat.shiftRight_eq_div_pow]
  omega

/-- In that range the low nibble is the number of the subkey. -/
theorem eq_indexOfReg_sk_iff (idx : RegIndex) (i : BitVec 4) :
    idx = indexOfReg (.sk i) ↔ idx.extractLsb' 4 4 = 0x1#4 ∧ idx.extractLsb' 0 4 = i := by
  have hlt := idx.isLt
  have hi := i.isLt
  rw [highNibble_eq_one_iff, ← BitVec.toNat_inj, indexOfReg_sk_toNat, ← BitVec.toNat_inj, BitVec.extractLsb'_toNat,
    Nat.shiftRight_zero]
  omega

theorem regOfIndex_indexOfReg (r : Reg) : regOfIndex (indexOfReg r) = some r := by
  cases r
  case sk i =>
    have hn := indexOfReg_sk_toNat i
    have hne : ∀ k < 0x10, indexOfReg (.sk i) ≠ BitVec.ofNat 8 k := by
      intro k hk h
      rw [h, BitVec.toNat_ofNat] at hn
      omega
    obtain ⟨hhigh, hlow⟩ := (eq_indexOfReg_sk_iff _ i).1 rfl
    simp [regOfIndex, hne, hhigh, hlow]
  all_goals rfl

theorem eq_indexOfReg_of_regOfIndex {idx : RegIndex} {r : Reg} (h : regOfIndex idx = some r) :
    idx = indexOfReg r := by
  simp only [regOfIndex, ite_eq_iff, Option.some.injEq, reduceCtorEq, and_false, or_false] at h
  rcases h with ⟨rfl, rfl⟩ | ⟨-, ⟨rfl, rfl⟩ | ⟨-, ⟨rfl, rfl⟩ | ⟨-, ⟨rfl, rfl⟩ | ⟨-, ⟨rfl, rfl⟩ | ⟨-, ⟨rfl, rfl⟩ |
    ⟨-, ⟨rfl, rfl⟩ | ⟨-, ⟨rfl, rfl⟩ | ⟨-, ⟨hhigh, rfl⟩⟩⟩⟩⟩⟩⟩⟩⟩
  case inr.inr.inr.inr.inr.inr.inr.inr => exact (eq_indexOfReg_sk_iff idx _).2 ⟨hhigh, rfl⟩
  all_goals rfl

theorem regOfIndex_eq_some_iff (idx : RegIndex) (r : Reg) : regOfIndex idx = some r ↔ idx = indexOfReg r :=
  ⟨eq_indexOfReg_of_regOfIndex, fun h => h ▸ regOfIndex_indexOfReg r⟩

theorem regOfIndex_eq_none_iff (idx : RegIndex) :
    regOfIndex idx = none ↔ (0x08#8 ≤ idx ∧ idx ≤ 0x0F#8) ∨ 0x20#8 ≤ idx := by
  have hlt := idx.isLt
  simp only [regOfIndex, ite_eq_iff, reduceCtorEq, and_false, false_or, and_true, highNibble_eq_one_iff]
  simp only [BitVec.le_def, ← BitVec.toNat_inj, BitVec.toNat_ofNat]
  omega

/-- Settles O5: the map and its inverse on the nine kinds of register, and arithmetic on the reserved ranges. -/
theorem registerMap : Obligations.RegisterMap :=
  ⟨regOfIndex_eq_some_iff, regOfIndex_eq_none_iff, indexOfReg_sk_toNat⟩

/-! ## The STATUS word -/

theorem errField_eq_zero_iff (st : Status) : st.errField = 0#4 ↔ st.err = none := by
  rcases st.err.eq_none_or_eq_some with h | ⟨e, h⟩
  · simp [Status.errField, h]
  · cases e <;> simp [Status.errField, h, ErrCode.code]

theorem errField_le (st : Status) : st.errField ≤ 9#4 := by
  rcases st.err.eq_none_or_eq_some with h | ⟨e, h⟩
  · simp [Status.errField, h]
  · cases e <;> simp [Status.errField, h, ErrCode.code]

/-- The bits of STATUS below ERR, one per flag; [11:9] are reserved (R24). -/
theorem word_flags (st : Status) :
    st.word.getLsbD 0 = st.keyValid ∧ st.word.getLsbD 1 = st.msgActive ∧ st.word.getLsbD 2 = st.mode.bit ∧
    st.word.getLsbD 3 = st.dir.bit ∧ st.word.getLsbD 4 = st.doutValid ∧ st.word.getLsbD 5 = st.doutPending ∧
    st.word.getLsbD 6 = st.tailSeen ∧ st.word.getLsbD 7 = st.ctrExh := by
  simp only [Status.word, BitVec.getLsbD_cast, BitVec.getLsbD_append]
  simp

/-- The bits of STATUS from 9 on: ERR at 15:12, the rest reserved (R24). -/
theorem word_getLsbD_of_ge {st : Status} {i : Nat} (hi : 9 ≤ i) :
    st.word.getLsbD i = (decide (12 ≤ i ∧ i < 16) && st.errField.getLsbD (i - 12)) := by
  have hflag : ∀ k < 9, ¬ i - k < 1 := by omega
  have hzero : ¬ i < 1 := by omega
  simp only [Status.word, BitVec.getLsbD_cast, BitVec.getLsbD_append]
  simp only [Nat.sub_sub, Nat.reduceAdd, Nat.reduceLT, hflag, hzero, if_false, BitVec.getLsbD_zero]
  by_cases hlow : i - 9 < 3
  · have hlt : ¬ 12 ≤ i := by omega
    simp [hlow, hlt]
  · have hge : 12 ≤ i := by omega
    have hiff : i - 12 < 4 ↔ i < 16 := by omega
    by_cases hlt : i < 16 <;> simp [hlow, hge, hiff, hlt]

theorem word_extract_err (st : Status) : st.word.extractLsb' 12 4 = st.errField := by
  apply BitVec.eq_of_getLsbD_eq
  intro i hi
  have hle : 12 ≤ 12 + i ∧ 12 + i < 16 := by omega
  rw [BitVec.getLsbD_extractLsb', word_getLsbD_of_ge (by omega)]
  simp [hi, hle]

theorem word_extract_reserved (st : Status) :
    st.word.extractLsb' 9 3 = 0#3 ∧ st.word.extractLsb' 16 48 = 0#48 := by
  constructor <;> apply BitVec.eq_of_getLsbD_eq <;> intro i hi
  · have hlt : ¬ 12 ≤ 9 + i := by omega
    simp [BitVec.getLsbD_extractLsb', word_getLsbD_of_ge, hlt]
  · have hge : ¬ 16 + i < 16 := by omega
    simp [BitVec.getLsbD_extractLsb', word_getLsbD_of_ge (st := st) (i := 16 + i) (by omega)]

/-- Settles O13: the flags one by one, then the fields above them. -/
theorem statusWordLayout : Obligations.StatusWordLayout := by
  intro st
  have hmode : st.mode.bit = decide (st.mode = .ctr) := by cases st.mode <;> rfl
  have hdir : st.dir.bit = decide (st.dir = .decrypt) := by cases st.dir <;> rfl
  obtain ⟨h0, h1, h2, h3, h4, h5, h6, h7⟩ := word_flags st
  obtain ⟨hlow, hhigh⟩ := word_extract_reserved st
  exact ⟨h0, h1, h2.trans hmode, h3.trans hdir, h4, h5, h6, h7, busyBit_word st, hlow, word_extract_err st, hhigh,
    (errField_eq_zero_iff st).symm, errField_le st⟩

/-! ## The state right after reset -/

/-- Settles O7: each value by evaluation of the reset state. -/
theorem resetStateValues : Obligations.ResetStateValues :=
  ⟨by decide, rfl, rfl, rfl, rfl, rfl, rfl, rfl⟩

end Sys2Proof.Machine
end

section
/-! PROOFS. The invariants of 10_state.md R47: one rule per state operation, then every event, then the step. -/

namespace Sys2Proof.Machine

section Operations

variable {s t : State}

/-- The invariants speak of STATUS, PENDING and SK only. -/
theorem inv_of_same (h : s.Inv) (hstatus : t.status = s.status) (hpending : t.pending = s.pending)
    (hsk : t.sk = s.sk) : t.Inv := by
  obtain ⟨ha, hb, hd, he, hg⟩ := h
  exact ⟨by rwa [hstatus], by rwa [hsk], by rwa [hstatus, hpending], by rwa [hstatus], by rwa [hstatus]⟩

theorem inv_of_reset (hstatus : t.status = Status.reset) (hpending : t.pending = none)
    (hsk : t.sk = Vector.replicate 16 0#64) : t.Inv :=
  ⟨by simp [hstatus, Status.reset], by simp [hsk], by simp [hstatus, hpending, Status.reset],
    by simp [hstatus, Status.reset], by simp [hstatus, Status.reset]⟩

theorem inv_raiseErr (e : ErrCode) (h : s.Inv) : (raiseErr e s).Inv :=
  ⟨by simp, h.skHigh, h.busyPending, h.pendingValid, fun _ => rfl⟩

theorem inv_clearErr (h : s.Inv) : (clearErr s).Inv :=
  ⟨h.activeKey, h.skHigh, h.busyPending, h.pendingValid, by simp⟩

theorem inv_noteUnspec (u : UnspecUse) (c : Bool) (h : s.Inv) : (noteUnspec u c s).Inv :=
  inv_of_same h rfl rfl rfl

theorem inv_noteDinRead (h : s.Inv) : (noteDinRead s).Inv := inv_noteUnspec _ _ h

theorem inv_noteTagRead (h : s.Inv) : (noteTagRead s).Inv := inv_noteUnspec _ _ h

theorem inv_takeFree (h : s.Inv) : (takeFree s).Inv := inv_of_same h rfl rfl rfl

theorem inv_logRead (idx : RegIndex) (v : Word) (h : s.Inv) : (logRead idx v s).Inv := inv_of_same h rfl rfl rfl

theorem inv_listFirst (es : List Event) (h : s.Inv) : (listFirst es s).Inv := inv_of_same h rfl rfl rfl

theorem inv_withSchedule (es : List Event) (h : s.Inv) : State.Inv { s with schedule := es } :=
  inv_of_same h rfl rfl rfl

theorem inv_storeDin (v : Word) (h : s.Inv) : (storeDin v s).Inv := inv_of_same h rfl rfl rfl

theorem inv_storeDinTag (v : Word) (h : s.Inv) : (storeDinTag v s).Inv := inv_of_same h rfl rfl rfl

/-- (d): the latch and BUSY are written together (R222, R225). -/
theorem inv_latch (v : Word) (h : s.Inv) : (latch v s).Inv :=
  ⟨h.activeKey, h.skHigh, rfl, h.pendingValid, h.errIdle⟩

theorem inv_freeLatch (h : s.Inv) : (freeLatch s).Inv :=
  ⟨h.activeKey, h.skHigh, rfl, h.pendingValid, h.errIdle⟩

/-- (b): a subkey register takes 48 bits with zeros above them (R125). -/
theorem inv_storeKey (k : Word) (sks : Vector Subkey 16) (h : s.Inv) : (storeKey k sks s).Inv := by
  refine ⟨fun _ => rfl, fun i => ?_, h.busyPending, h.pendingValid, h.errIdle⟩
  apply BitVec.eq_of_getLsbD_eq
  intro j hj
  simp

theorem inv_putResult (v : Word) (h : s.Inv) : (putResult v s).Inv :=
  ⟨h.activeKey, h.skHigh, h.busyPending, fun _ => rfl, h.errIdle⟩

/-- (a) and (g): a message starts only with a key loaded and no error recorded (R247). -/
theorem inv_startMsg (m : Mode) (d : Dir) (h : s.Inv) (hkey : s.status.keyValid = true)
    (herr : s.status.err = none) : (startMsg m d s).Inv :=
  ⟨fun _ => hkey, h.skHigh, h.busyPending, h.pendingValid, fun he => absurd herr he⟩

theorem inv_endMsg (h : s.Inv) : (endMsg s).Inv :=
  ⟨by simp, h.skHigh, h.busyPending, h.pendingValid, fun _ => rfl⟩

theorem inv_advanceCtr (h : s.Inv) : (advanceCtr s).Inv :=
  ⟨h.activeKey, h.skHigh, h.busyPending, h.pendingValid, h.errIdle⟩

theorem inv_msgCounter (h : s.Inv) : (msgCounter s).Inv := by
  cases hm : s.status.mode with
  | ecb => exact (msgCounter_of_ecb hm).symm ▸ h
  | ctr => exact (msgCounter_of_ctr hm).symm ▸ inv_advanceCtr h

theorem inv_putTag (g : Tag) (h : s.Inv) : (putTag g s).Inv :=
  ⟨h.activeKey, h.skHigh, h.busyPending, h.pendingValid, h.errIdle⟩

/-- (e): what a read of DOUT leaves in DOUT_PENDING is 0 or under DOUT_VALID (log 3). -/
theorem inv_setPending {b : Bool} (hb : b = true → s.status.doutValid = true) (h : s.Inv) : (setPending b s).Inv :=
  ⟨h.activeKey, h.skHigh, h.busyPending, hb, h.errIdle⟩

theorem inv_resetEvent : (resetEvent s).Inv := inv_of_reset rfl rfl rfl

end Operations

section Events

variable {s t : State}

theorem inv_hostWrite (idx : RegIndex) (v : Word) (h : s.Inv) : (hostWrite idx v s).Inv := by
  rcases hostWrite_cases idx v s with ⟨-, hw | hw | hw⟩ | hw | hw <;> rw [hw]
  · exact inv_latch v h
  · exact inv_storeDin v h
  · exact inv_storeDinTag v h
  · exact inv_raiseErr _ h
  · exact inv_raiseErr _ h

theorem inv_hostRead (idx : RegIndex) (h : s.Inv) : (hostRead idx s).2.Inv := by
  rcases hostRead_cases idx s with hr | hr | ⟨u, c, hr | hr | ⟨b, hb, hr | hr⟩⟩ <;> rw [hr]
  · exact h
  · exact inv_raiseErr _ h
  · exact inv_noteUnspec u c h
  · exact inv_takeFree (inv_noteUnspec u c h)
  · exact inv_setPending hb (inv_noteUnspec u c h)
  · exact inv_setPending hb (inv_takeFree (inv_noteUnspec u c h))

theorem inv_waitEvent (polls : Nat) (h : s.Inv) : (waitEvent polls s).Inv := by
  have hlog := inv_logRead (indexOfReg .status) s.status.word h
  rw [waitEvent_eq]
  split
  · exact inv_listFirst _ hlog
  · exact hlog

theorem inv_performed {i : Instr} (hp : Performed s i t) (herr : s.status.err = none) (h : s.Inv) : t.Inv := by
  cases hp with
  | loadKey => exact inv_storeKey _ _ (inv_noteDinRead h)
  | encBlock | decBlock | round => exact inv_putResult _ (inv_noteDinRead h)
  | ecbEncStart _ hkey | ecbDecStart _ hkey | ctrEncStart _ hkey | ctrDecStart _ hkey =>
    exact inv_startMsg _ _ h hkey herr
  | msgBlock =>
    exact inv_putResult _ (inv_putTag _ (inv_msgCounter (inv_noteDinRead (inv_noteTagRead h))))
  | msgEnd => exact inv_endMsg h

theorem inv_execCases {i : Instr} (hc : ExecCases s i t) (h : s.Inv) : t.Inv := by
  rcases hc with ⟨rfl, -⟩ | ⟨-, rfl⟩ | ⟨-, e, rfl | ⟨-, rfl⟩⟩ | ⟨herr, hp⟩
  · exact h
  · exact inv_clearErr h
  · exact inv_raiseErr e h
  · exact inv_raiseErr e (inv_noteTagRead h)
  · exact inv_performed hp herr h

theorem inv_illegalWord (h : s.Inv) : (illegalWord s).Inv := by
  rcases illegalWord_cases s with ⟨-, hw⟩ | ⟨-, hw⟩ <;> rw [hw]
  · exact h
  · exact inv_raiseErr _ h

theorem inv_coreStep (hstep : coreStep s = .next t) (h : s.Inv) : t.Inv := by
  rcases coreStep_next_cases hstep with ⟨-, rfl⟩ | ⟨v, -, ⟨e, -, rfl⟩ | ⟨i, u, -, -, hc, rfl⟩⟩
  · exact h
  · exact inv_freeLatch (inv_illegalWord h)
  · exact inv_freeLatch (inv_execCases hc h)

end Events

/-- Settles O9: by the kind of event that takes place. -/
theorem invKeptByEveryStep : Obligations.InvKeptByEveryStep := by
  intro s t hs hstep
  obtain ⟨es, hcase⟩ := step_next_cases hstep
  have h := inv_withSchedule es hs
  rcases hcase with ⟨idx, v, -, rfl⟩ | ⟨idx, -, rfl⟩ | ⟨-, rfl⟩ | ⟨polls, -, rfl⟩ | ⟨-, hcore⟩
  · exact inv_hostWrite idx v h
  · exact inv_logRead _ _ (inv_hostRead idx h)
  · exact inv_resetEvent
  · exact inv_waitEvent polls h
  · exact inv_coreStep hcore h

/-- Settles O8: the same values as after RST. -/
theorem invHoldsAtReset : Obligations.InvHoldsAtReset := inv_of_reset rfl rfl rfl

end Sys2Proof.Machine
end

section
/-! PROOFS. Which steps write the registers of the key, the result and the sequencer (10_state.md R27 to R40), and how
long a recorded error stays (R34). -/

namespace Sys2Proof.Machine

/-! ## The word of a command -/

/-- A word that decodes to a command is that command's word (R77, R82). -/
theorem eq_encode_of_decode {v : Word} {i : Instr} (h : decode v = .ok i) : v = encode i := by
  simp only [decode] at h
  split at h
  · cases h
  · rename_i hres
    split at h
    · cases h
    · rename_i j hj
      split at h
      · cases h
      · rename_i hround
        obtain rfl : j = i := Except.ok.inj h
        obtain ⟨hop, h4, hne⟩ := Laws.Decode.commandOf_some hj
        have hsksel : skselOf j = (fieldsOf v).sksel := by
          by_cases hop4 : (fieldsOf v).op = 0x04#8
          · rw [h4 hop4, skselOf]
          · rw [hne hop4]
            by_contra hs
            exact hround ⟨hop4, Ne.symm hs⟩
        have hfields : fieldsOfInstr j = fieldsOf v := by
          rw [fieldsOfInstr, hop, hsksel, ← not_ne_iff.1 hres]
        rw [encode, hfields, Laws.Decode.wordOf_fieldsOf]

/-! ## The registers that only a performed command or RST writes -/

/-- KEY, SK, DOUT, DOUT_TAG, CTR and the fields KEY_VALID, MODE and DIR: no host write, no refusal and no read
touches one of them. -/
structure CommandRegs where
  key      : Word
  sk       : Vector Word 16
  keyValid : Bool
  dout     : Word
  doutTag  : Tag
  ctr      : Word
  mode     : Mode
  dir      : Dir

def State.commandRegs (s : State) : CommandRegs :=
  { key := s.key, sk := s.sk, keyValid := s.status.keyValid, dout := s.dout, doutTag := s.doutTag, ctr := s.ctr,
    mode := s.status.mode, dir := s.status.dir }

section CommandRegs

variable (s : State)

@[simp] theorem commandRegs_raiseErr (e : ErrCode) : (raiseErr e s).commandRegs = s.commandRegs := rfl
@[simp] theorem commandRegs_clearErr : (clearErr s).commandRegs = s.commandRegs := rfl
@[simp] theorem commandRegs_noteUnspec (u : UnspecUse) (c : Bool) :
    (noteUnspec u c s).commandRegs = s.commandRegs := rfl
@[simp] theorem commandRegs_noteTagRead : (noteTagRead s).commandRegs = s.commandRegs := rfl
@[simp] theorem commandRegs_freeLatch : (freeLatch s).commandRegs = s.commandRegs := rfl
@[simp] theorem commandRegs_latch (v : Word) : (latch v s).commandRegs = s.commandRegs := rfl
@[simp] theorem commandRegs_storeDin (v : Word) : (storeDin v s).commandRegs = s.commandRegs := rfl
@[simp] theorem commandRegs_storeDinTag (v : Word) : (storeDinTag v s).commandRegs = s.commandRegs := rfl
@[simp] theorem commandRegs_setPending (b : Bool) : (setPending b s).commandRegs = s.commandRegs := rfl
@[simp] theorem commandRegs_takeFree : (takeFree s).commandRegs = s.commandRegs := rfl
@[simp] theorem commandRegs_logRead (idx : RegIndex) (v : Word) : (logRead idx v s).commandRegs = s.commandRegs := rfl
@[simp] theorem commandRegs_listFirst (es : List Event) : (listFirst es s).commandRegs = s.commandRegs := rfl
@[simp] theorem commandRegs_withSchedule (es : List Event) :
    State.commandRegs { s with schedule := es } = s.commandRegs := rfl

@[simp] theorem commandRegs_hostWrite (idx : RegIndex) (v : Word) :
    (hostWrite idx v s).commandRegs = s.commandRegs := by
  rcases hostWrite_cases idx v s with ⟨-, hw | hw | hw⟩ | hw | hw <;> simp [hw]

@[simp] theorem commandRegs_hostRead (idx : RegIndex) : (hostRead idx s).2.commandRegs = s.commandRegs := by
  rcases hostRead_cases idx s with hr | hr | ⟨u, c, hr | hr | ⟨b, -, hr | hr⟩⟩ <;> simp [hr]

@[simp] theorem commandRegs_readEvent (idx : RegIndex) : (readEvent idx s).commandRegs = s.commandRegs := by
  simp [readEvent]

@[simp] theorem commandRegs_waitEvent (polls : Nat) : (waitEvent polls s).commandRegs = s.commandRegs := by
  rw [waitEvent_eq]
  split <;> simp

@[simp] theorem commandRegs_illegalWord : (illegalWord s).commandRegs = s.commandRegs := by
  rcases illegalWord_cases s with ⟨-, hw⟩ | ⟨-, hw⟩ <;> simp [hw]

end CommandRegs

section Steps

variable {s t : State} {i : Instr}

/-- A command that is not performed leaves these registers. -/
theorem commandRegs_of_execCases (hc : ExecCases s i t) : t.commandRegs = s.commandRegs ∨ Performed s i t := by
  rcases hc with ⟨rfl, -⟩ | ⟨-, rfl⟩ | ⟨-, e, rfl | ⟨-, rfl⟩⟩ | ⟨-, hp⟩
  · exact .inl rfl
  · exact .inl (by simp)
  · exact .inl (by simp)
  · exact .inl (by simp)
  · exact .inr hp

theorem commandRegs_coreStep (h : coreStep s = .next t) :
    t.commandRegs = s.commandRegs ∨
      ∃ i u, s.pending = some (encode i) ∧ Performed s i u ∧ t.commandRegs = u.commandRegs := by
  rcases coreStep_next_cases h with ⟨-, rfl⟩ | ⟨v, hv, ⟨e, -, rfl⟩ | ⟨i, u, hd, -, hc, rfl⟩⟩
  · exact .inl rfl
  · exact .inl (by simp)
  · refine (commandRegs_of_execCases hc).imp (by simp) fun hp => ⟨i, u, ?_, hp, by simp⟩
    rw [hv, eq_encode_of_decode hd]

/-- A step that is not RST changes these registers only by performing the pending command. -/
theorem commandRegs_step (h : step s = .next t) (hrst : ∀ es, s.schedule ≠ .rst :: es) :
    t.commandRegs = s.commandRegs ∨
      ∃ es i u, s.pending = some (encode i) ∧ Performed { s with schedule := es } i u ∧
        t.commandRegs = u.commandRegs := by
  obtain ⟨es, ⟨idx, v, -, rfl⟩ | ⟨idx, -, rfl⟩ | ⟨hs, -⟩ | ⟨polls, -, rfl⟩ | ⟨-, hcore⟩⟩ := step_next_cases h
  · exact .inl (by simp)
  · exact .inl (by simp)
  · exact absurd hs (hrst es)
  · exact .inl (by simp)
  · exact (commandRegs_coreStep hcore).imp id fun ⟨i, u, hi⟩ => ⟨es, i, u, hi⟩

/-! ## What a performed command may write -/

/-- While a message is active only MSG_BLOCK and MSG_END are performed, and neither writes the key (R40). -/
theorem performed_keeps_key (hp : Performed s i t) (hactive : s.status.msgActive = true) :
    t.key = s.key ∧ t.sk = s.sk ∧ t.status.keyValid = s.status.keyValid := by
  cases hp with
  | msgBlock => simp [msgBlockEffect]
  | msgEnd => simp
  | loadKey hidle | encBlock hidle | decBlock hidle | round _ hidle | ecbEncStart hidle | ecbDecStart hidle
  | ctrEncStart hidle | ctrDecStart hidle => simp [hactive] at hidle

/-- With a result unread no command that gives a result is performed (R30). -/
theorem performed_keeps_result (hp : Performed s i t) (hunread : s.status.doutPending = true) :
    t.dout = s.dout ∧ t.doutTag = s.doutTag := by
  cases hp with
  | loadKey => simp [loadKeyEffect]
  | ecbEncStart | ecbDecStart | ctrEncStart | ctrDecStart => simp
  | msgEnd => simp
  | encBlock _ _ hread | decBlock _ _ hread | round _ _ _ hread | msgBlock _ hread => simp [hunread] at hread

/-- The four commands that open a message (R181). -/
def IsStart (i : Instr) : Prop := i = .ecbEncStart ∨ i = .ecbDecStart ∨ i = .ctrEncStart ∨ i = .ctrDecStart

/-- CTR, MODE and DIR after a performed command (R27, R28, R39). -/
theorem performed_sequencer (hp : Performed s i t) :
    (IsStart i ∧ t.ctr = 0#64) ∨
      ((t.ctr = s.ctr ∨ (i = .msgBlock ∧ s.status.mode = .ctr ∧ t.ctr = s.ctr + 1#64)) ∧
        t.status.mode = s.status.mode ∧ t.status.dir = s.status.dir) := by
  cases hp with
  | loadKey => exact .inr (by simp [loadKeyEffect])
  | encBlock => exact .inr (by simp [encBlockEffect])
  | decBlock => exact .inr (by simp [decBlockEffect])
  | round => exact .inr (by simp [roundEffect])
  | ecbEncStart | ecbDecStart | ctrEncStart | ctrDecStart => exact .inl (by simp [IsStart])
  | msgBlock =>
    refine .inr ⟨?_, by simp [msgBlockEffect], by simp [msgBlockEffect]⟩
    cases hm : s.status.mode <;> simp [msgBlockEffect, msgCounter, hm]
  | msgEnd => exact .inr (by simp)

end Steps

/-! ## The obligations on these registers -/

/-- Settles O53: a step that writes the key performs a command that a message shuts out. -/
theorem keyConstantDuringMessage : Obligations.KeyConstantDuringMessage := by
  intro s t h hactive hrst
  rcases commandRegs_step h hrst with hk | ⟨es, i, u, -, hp, hk⟩
  · exact ⟨congrArg CommandRegs.key hk, congrArg CommandRegs.sk hk, congrArg CommandRegs.keyValid hk⟩
  · obtain ⟨hkey, hsk, hvalid⟩ := performed_keeps_key hp hactive
    exact ⟨(congrArg CommandRegs.key hk).trans hkey, (congrArg CommandRegs.sk hk).trans hsk,
      (congrArg CommandRegs.keyValid hk).trans hvalid⟩

/-- Settles O54: a step that writes the result performs a command that an unread result shuts out. -/
theorem noResultOverwrittenUnread : Obligations.NoResultOverwrittenUnread := by
  intro s t h hunread hrst
  rcases commandRegs_step h hrst with hk | ⟨es, i, u, -, hp, hk⟩
  · exact ⟨congrArg CommandRegs.dout hk, congrArg CommandRegs.doutTag hk⟩
  · obtain ⟨hdout, htag⟩ := performed_keeps_result hp hunread
    exact ⟨(congrArg CommandRegs.dout hk).trans hdout, (congrArg CommandRegs.doutTag hk).trans htag⟩

/-- Settles O55: by the command the step performs. -/
theorem sequencerStateWriters : Obligations.SequencerStateWriters := by
  intro s t h hrst
  rcases commandRegs_step h hrst with hk | ⟨es, i, u, hi, hp, hk⟩
  · have hctr : t.ctr = s.ctr := congrArg CommandRegs.ctr hk
    have hmode : t.status.mode = s.status.mode := congrArg CommandRegs.mode hk
    have hdir : t.status.dir = s.status.dir := congrArg CommandRegs.dir hk
    exact ⟨fun hne => absurd hctr hne, fun hne => hne.elim (absurd hmode) (absurd hdir)⟩
  · have hctr : t.ctr = u.ctr := congrArg CommandRegs.ctr hk
    have hmode : t.status.mode = u.status.mode := congrArg CommandRegs.mode hk
    have hdir : t.status.dir = u.status.dir := congrArg CommandRegs.dir hk
    rcases performed_sequencer hp with ⟨hstart, hzero⟩ | ⟨hmove, hm, hd⟩
    · exact ⟨fun _ => .inl ⟨hctr.trans hzero, i, hi, hstart⟩, fun _ => ⟨i, hi, hstart⟩⟩
    · refine ⟨fun hne => .inr ?_, fun hne => hne.elim (absurd (hmode.trans hm)) (absurd (hdir.trans hd))⟩
      rcases hmove with hsame | ⟨rfl, hctrMode, hnext⟩
      · exact absurd (hctr.trans hsame) hne
      · exact ⟨hctr.trans hnext, hctrMode, hi⟩

/-! ## The first error -/

section FirstError

variable {s t : State} {e : ErrCode}

theorem err_hostWrite (idx : RegIndex) (v : Word) (h : s.status.err = some e) :
    (hostWrite idx v s).status.err = some e := by
  rcases hostWrite_cases idx v s with ⟨-, hw | hw | hw⟩ | hw | hw <;> simp [hw, h]

theorem err_readEvent (idx : RegIndex) (h : s.status.err = some e) : (readEvent idx s).status.err = some e := by
  rcases hostRead_cases idx s with hr | hr | ⟨u, c, hr | hr | ⟨b, -, hr | hr⟩⟩ <;> simp [readEvent, hr, h]

theorem err_waitEvent (polls : Nat) (h : s.status.err = some e) : (waitEvent polls s).status.err = some e := by
  rw [waitEvent_eq]
  split <;> simp [h]

/-- With an error recorded the core ignores every command but NOP, which leaves it, and CLEAR_ERR (R246). -/
theorem err_coreStep (hstep : coreStep s = .next t) (h : s.status.err = some e) :
    t.status.err = some e ∨ (t.status.err = none ∧ s.pending = some (encode .clearErr)) := by
  have hne : s.status.err ≠ none := by simp [h]
  rcases coreStep_next_cases hstep with ⟨-, rfl⟩ | ⟨v, hv, ⟨_, -, rfl⟩ | ⟨i, u, hd, -, hc, rfl⟩⟩
  · exact .inl h
  · rcases illegalWord_cases s with ⟨-, hw⟩ | ⟨hnone, -⟩
    · exact .inl (by simp [hw, h])
    · exact absurd hnone hne
  · rcases hc with ⟨rfl, -⟩ | ⟨rfl, rfl⟩ | ⟨hnone, -⟩ | ⟨hnone, -⟩
    · exact .inl h
    · exact .inr ⟨rfl, by rw [hv, eq_encode_of_decode hd]⟩
    · exact absurd hnone hne
    · exact absurd hnone hne

end FirstError

/-- Settles O17: by the kind of event; only CLEAR_ERR and RST clear the field, and `raise` keeps the first error. -/
theorem firstErrorKeptUntilCleared : Obligations.FirstErrorKeptUntilCleared := by
  intro s t e h hstep
  obtain ⟨es, ⟨idx, v, -, rfl⟩ | ⟨idx, -, rfl⟩ | ⟨hs, rfl⟩ | ⟨polls, -, rfl⟩ | ⟨-, hcore⟩⟩ := step_next_cases hstep
  · exact .inl (err_hostWrite idx v h)
  · exact .inl (err_readEvent idx h)
  · exact .inr ⟨rfl, .inl ⟨es, hs⟩⟩
  · exact .inl (err_waitEvent polls h)
  · exact (err_coreStep hcore h).imp id fun ⟨hnone, hword⟩ => ⟨hnone, .inr hword⟩

end Sys2Proof.Machine
end

section
/-! PROOFS. Two runs that differ only in UNSPECIFIED values (10_state.md R44, 93_implementation_defined.md U6): one rule
per state operation, then every command and every access, then the step. A step that leaves the run unmarked has read
no register that is unwritten or not valid, so both runs go on with the same values. -/

namespace Sys2Proof.Machine

/-! ## The run mark -/

section RunMark

variable {s : State}

/-- A use of an UNSPECIFIED value marks the run, and the mark stays. -/
theorem cleanRun_noteUnspec {u : UnspecUse} {c : Bool} : (noteUnspec u c s).cleanRun ↔ s.cleanRun ∧ c = false := by
  simp [State.cleanRun]

theorem cleanRun_noteDinRead : (noteDinRead s).cleanRun ↔ s.cleanRun ∧ s.dinUnwritten = false := cleanRun_noteUnspec

theorem cleanRun_noteTagRead : (noteTagRead s).cleanRun ↔ s.cleanRun ∧ s.dinTagUnwritten = false :=
  cleanRun_noteUnspec

theorem cleanRun_msgBlockEffect : (msgBlockEffect s).cleanRun ↔ s.cleanRun ∧ s.dinUnwritten = false := by
  simp [State.cleanRun, msgBlockEffect]

/-- A read of a register that is UNSPECIFIED while BUSY = 1 leaves no unmarked run then (U5). -/
theorem cleanRun_readResult {w : Word} {u : UnspecUse} {c : Bool} (h : (readResult w u c s).2.cleanRun) :
    s.status.busy = false ∧ c = false := by
  unfold readResult at h
  cases hb : s.status.busy <;> rw [hb] at h
  · exact ⟨rfl, (cleanRun_noteUnspec.1 h).2⟩
  · exact absurd (cleanRun_noteUnspec.1 h).2 (by decide)

end RunMark

/-! ## What the operations do to two states that agree -/

section Operations

variable {s s' : State}

theorem sameDefined_status (h : s.SameDefined s') : s'.status = s.status := by rw [h.others]
theorem sameDefined_pending (h : s.SameDefined s') : s'.pending = s.pending := by rw [h.others]
theorem sameDefined_schedule (h : s.SameDefined s') : s'.schedule = s.schedule := by rw [h.others]
theorem sameDefined_cfg (h : s.SameDefined s') : s'.cfg = s.cfg := by rw [h.others]
theorem sameDefined_ctr (h : s.SameDefined s') : s'.ctr = s.ctr := by rw [h.others]
theorem sameDefined_dinUnwritten (h : s.SameDefined s') : s'.dinUnwritten = s.dinUnwritten := by rw [h.others]
theorem sameDefined_dinTagUnwritten (h : s.SameDefined s') : s'.dinTagUnwritten = s.dinTagUnwritten := by rw [h.others]
theorem sameDefined_doutTagUnwritten (h : s.SameDefined s') : s'.doutTagUnwritten = s.doutTagUnwritten := by rw [h.others]

theorem sameDefined_subkeys (h : s.SameDefined s') (hkey : s.status.keyValid = true) : subkeys s' = subkeys s := by
  rw [subkeys, (h.key hkey).2, subkeys]

theorem sameDefined_raiseErr (e : ErrCode) (h : s.SameDefined s') : (raiseErr e s).SameDefined (raiseErr e s') :=
  ⟨congrArg (raiseErr e) h.others, h.din, h.dinTag, h.doutTag, h.dout, h.key⟩

theorem sameDefined_clearErr (h : s.SameDefined s') : (clearErr s).SameDefined (clearErr s') :=
  ⟨congrArg clearErr h.others, h.din, h.dinTag, h.doutTag, h.dout, h.key⟩

theorem sameDefined_noteUnspec (u : UnspecUse) (c : Bool) (h : s.SameDefined s') :
    (noteUnspec u c s).SameDefined (noteUnspec u c s') :=
  ⟨congrArg (noteUnspec u c) h.others, h.din, h.dinTag, h.doutTag, h.dout, h.key⟩

theorem sameDefined_noteDinRead (h : s.SameDefined s') : (noteDinRead s).SameDefined (noteDinRead s') := by
  unfold noteDinRead
  rw [sameDefined_dinUnwritten h]
  exact sameDefined_noteUnspec _ _ h

theorem sameDefined_noteTagRead (h : s.SameDefined s') : (noteTagRead s).SameDefined (noteTagRead s') := by
  unfold noteTagRead
  rw [sameDefined_dinTagUnwritten h]
  exact sameDefined_noteUnspec _ _ h

theorem sameDefined_freeLatch (h : s.SameDefined s') : (freeLatch s).SameDefined (freeLatch s') :=
  ⟨congrArg freeLatch h.others, h.din, h.dinTag, h.doutTag, h.dout, h.key⟩

theorem sameDefined_latch (v : Word) (h : s.SameDefined s') : (latch v s).SameDefined (latch v s') :=
  ⟨congrArg (latch v) h.others, h.din, h.dinTag, h.doutTag, h.dout, h.key⟩

theorem sameDefined_startMsg (m : Mode) (d : Dir) (h : s.SameDefined s') :
    (startMsg m d s).SameDefined (startMsg m d s') :=
  ⟨congrArg (startMsg m d) h.others, h.din, h.dinTag, h.doutTag, h.dout, h.key⟩

theorem sameDefined_endMsg (h : s.SameDefined s') : (endMsg s).SameDefined (endMsg s') :=
  ⟨congrArg endMsg h.others, h.din, h.dinTag, h.doutTag, h.dout, h.key⟩

theorem sameDefined_advanceCtr (h : s.SameDefined s') : (advanceCtr s).SameDefined (advanceCtr s') :=
  ⟨congrArg advanceCtr h.others, h.din, h.dinTag, h.doutTag, h.dout, h.key⟩

theorem sameDefined_msgCounter (h : s.SameDefined s') : (msgCounter s).SameDefined (msgCounter s') := by
  have hmode : s'.status.mode = s.status.mode := congrArg Status.mode (sameDefined_status h)
  cases hm : s.status.mode with
  | ecb => rwa [msgCounter_of_ecb hm, msgCounter_of_ecb (hmode.trans hm)]
  | ctr =>
    rw [msgCounter_of_ctr hm, msgCounter_of_ctr (hmode.trans hm)]
    exact sameDefined_advanceCtr h

theorem sameDefined_setPending (b : Bool) (h : s.SameDefined s') : (setPending b s).SameDefined (setPending b s') :=
  ⟨congrArg (setPending b) h.others, h.din, h.dinTag, h.doutTag, h.dout, h.key⟩

theorem sameDefined_logRead (idx : RegIndex) (v : Word) (h : s.SameDefined s') :
    (logRead idx v s).SameDefined (logRead idx v s') :=
  ⟨congrArg (logRead idx v) h.others, h.din, h.dinTag, h.doutTag, h.dout, h.key⟩

theorem sameDefined_listFirst (es : List Event) (h : s.SameDefined s') :
    (listFirst es s).SameDefined (listFirst es s') :=
  ⟨congrArg (listFirst es) h.others, h.din, h.dinTag, h.doutTag, h.dout, h.key⟩

theorem sameDefined_withSchedule (es : List Event) (h : s.SameDefined s') :
    State.SameDefined { s with schedule := es } { s' with schedule := es } :=
  ⟨congrArg (fun s : State => { s with schedule := es }) h.others, h.din, h.dinTag, h.doutTag, h.dout, h.key⟩

/-- A register that takes the same value on both sides agrees from then on, whatever it held. -/
theorem sameDefined_storeDin (v : Word) (h : s.SameDefined s') : (storeDin v s).SameDefined (storeDin v s') :=
  ⟨congrArg (storeDin v) h.others, fun _ => rfl, h.dinTag, h.doutTag, h.dout, h.key⟩

theorem sameDefined_storeDinTag (v : Word) (h : s.SameDefined s') :
    (storeDinTag v s).SameDefined (storeDinTag v s') :=
  ⟨congrArg (storeDinTag v) h.others, h.din, fun _ => rfl, h.doutTag, h.dout, h.key⟩

theorem sameDefined_putTag {g g' : Tag} (hg : g' = g) (h : s.SameDefined s') :
    (putTag g s).SameDefined (putTag g' s') := by
  subst hg
  exact ⟨congrArg (putTag g') h.others, h.din, h.dinTag, fun _ => rfl, h.dout, h.key⟩

theorem sameDefined_putResult {v v' : Word} (hv : v' = v) (h : s.SameDefined s') :
    (putResult v s).SameDefined (putResult v' s') := by
  subst hv
  exact ⟨congrArg (putResult v') h.others, h.din, h.dinTag, h.doutTag, fun _ => rfl, h.key⟩

theorem sameDefined_storeKey (k : Word) (sks : Vector Subkey 16) (h : s.SameDefined s') :
    (storeKey k sks s).SameDefined (storeKey k sks s') :=
  ⟨congrArg (storeKey k sks) h.others, h.din, h.dinTag, h.doutTag, h.dout, fun _ => ⟨rfl, rfl⟩⟩

/-- RST gives both the same registers. -/
theorem sameDefined_resetEvent (h : s.SameDefined s') : (resetEvent s).SameDefined (resetEvent s') :=
  ⟨(congrArg resetEvent h.others :), fun _ => rfl, fun _ => rfl, fun _ => rfl, fun _ => rfl, fun _ => ⟨rfl, rfl⟩⟩

end Operations

/-! ## The commands -/

/-- What a step owes two states that agree: an unmarked run agrees with the other one after it too. -/
def AgreeIfClean (t t' : State) : Prop := t.cleanRun → t.SameDefined t'

section Commands

variable {s s' : State} {cs : List Check} {f : State → State}

/-- Every check but TAG_RANGE's reads STATUS only (R247). -/
theorem sameDefined_fails {c : Check} (h : s.SameDefined s') (hc : c ≠ .tagInRange) : c.fails s' = c.fails s := by
  have hstatus := sameDefined_status h
  cases c
  case tagInRange => exact absurd rfl hc
  all_goals simp only [Check.fails, hstatus]

theorem firstFailing_congr (h : ∀ c ∈ cs, c.fails s' = c.fails s) : firstFailing cs s' = firstFailing cs s := by
  induction cs with
  | nil => rfl
  | cons c cs ih =>
    obtain ⟨hc, hcs⟩ := List.forall_mem_cons.1 h
    simp only [firstFailing, hc, ih hcs]

theorem agree_guarded (h : s.SameDefined s') (hcs : ∀ c ∈ cs, c.fails s' = c.fails s)
    (hf : (∀ c ∈ cs, c.fails s = false) → AgreeIfClean (f s) (f s')) :
    AgreeIfClean (guarded cs f s) (guarded cs f s') := by
  have hfirst := firstFailing_congr hcs
  rcases guarded_cases cs f s with ⟨e, he, hg⟩ | ⟨hnone, hg⟩
  · rw [hg, guarded_of_fail (hfirst.trans he)]
    exact fun _ => sameDefined_raiseErr e h
  · rw [hg, guarded_of_pass (hfirst.trans hnone)]
    exact hf ((firstFailing_none_iff cs s).1 hnone)

theorem agree_unlessErr (h : s.SameDefined s') (hf : AgreeIfClean (f s) (f s')) :
    AgreeIfClean (unlessErr f s) (unlessErr f s') := by
  have herr : s'.status.err = s.status.err := congrArg Status.err (sameDefined_status h)
  rcases unlessErr_cases f s with ⟨hsome, hu⟩ | ⟨hnone, hu⟩
  · rw [hu, unlessErr_of_some (herr ▸ hsome)]
    exact fun _ => h
  · rw [hu, unlessErr_of_none (herr.trans hnone)]
    exact hf

/-- A command whose checks read STATUS only. -/
theorem agree_checked (h : s.SameDefined s') (hcs : .tagInRange ∉ cs)
    (hf : (∀ c ∈ cs, c.fails s = false) → AgreeIfClean (f s) (f s')) :
    AgreeIfClean (unlessErr (guarded cs f) s) (unlessErr (guarded cs f) s') :=
  agree_unlessErr h (agree_guarded h (fun _ hc => sameDefined_fails h (ne_of_mem_of_not_mem hc hcs)) hf)

theorem agree_illegalWord (h : s.SameDefined s') : AgreeIfClean (illegalWord s) (illegalWord s') :=
  agree_unlessErr h fun _ => sameDefined_raiseErr _ h

theorem agree_loadKey (h : s.SameDefined s') : AgreeIfClean (loadKeyEffect s) (loadKeyEffect s') := by
  intro hclean
  obtain ⟨-, hdin⟩ := cleanRun_noteDinRead.1 hclean
  simp only [loadKeyEffect, h.din hdin, sameDefined_cfg h]
  exact sameDefined_storeKey _ _ (sameDefined_noteDinRead h)

/-- The commands that compute a result from DIN and the subkeys: ENC_BLOCK, DEC_BLOCK and ROUND. -/
theorem agree_result {v v' : Word} (h : s.SameDefined s') (hv : s.dinUnwritten = false → v' = v) :
    AgreeIfClean (putResult v (noteDinRead s)) (putResult v' (noteDinRead s')) := by
  intro hclean
  obtain ⟨-, hdin⟩ := cleanRun_noteDinRead.1 hclean
  exact sameDefined_putResult (hv hdin) (sameDefined_noteDinRead h)

theorem sameDefined_transformBlock (forward : Bool) (h : s.SameDefined s') (hkey : s.status.keyValid = true)
    (hdin : s.dinUnwritten = false) :
    transformBlock s'.din (subkeys s') forward = transformBlock s.din (subkeys s) forward := by
  rw [h.din hdin, sameDefined_subkeys h hkey]

theorem sameDefined_roundOutput (k : BitVec 4) (h : s.SameDefined s') (hkey : s.status.keyValid = true)
    (hdin : s.dinUnwritten = false) : feistel (dinHalf s') (subkey s' k) = feistel (dinHalf s) (subkey s k) := by
  simp only [dinHalf, subkey, h.din hdin, (h.key hkey).2]

theorem sameDefined_msgOutput (h : s.SameDefined s') (hkey : s.status.keyValid = true)
    (hdin : s.dinUnwritten = false) : msgOutput s' = msgOutput s := by
  simp only [msgOutput, sameDefined_status h, sameDefined_ctr h, h.din hdin, sameDefined_subkeys h hkey]

/-- MSG_BLOCK reads DIN_TAG from its TAG_RANGE check on, and DIN where it is performed (log 15). -/
theorem agree_msgBlock (h : s.SameDefined s') (hkey : s.status.keyValid = true) :
    AgreeIfClean (guarded [.tagInRange, .noTailYet, .counterLeft] msgBlockEffect (noteTagRead s))
      (guarded [.tagInRange, .noTailYet, .counterLeft] msgBlockEffect (noteTagRead s')) := by
  intro hclean
  have hnoted := sameDefined_noteTagRead h
  have htagRead : (noteTagRead s).cleanRun := by
    rcases guarded_cases [.tagInRange, .noTailYet, .counterLeft] msgBlockEffect (noteTagRead s) with
      ⟨e, -, hg⟩ | ⟨-, hg⟩ <;> rw [hg] at hclean
    · exact hclean
    · exact (cleanRun_msgBlockEffect.1 hclean).1
  have htag : s'.dinTag = s.dinTag := h.dinTag (cleanRun_noteTagRead.1 htagRead).2
  refine agree_guarded hnoted (fun c _ => ?_) (fun _ heffect => ?_) hclean
  · by_cases hc : c = .tagInRange
    · subst hc
      show decide (8#4 < s'.dinTag) = decide (8#4 < s.dinTag)
      rw [htag]
    · exact sameDefined_fails hnoted hc
  · obtain ⟨-, hdin⟩ := cleanRun_msgBlockEffect.1 heffect
    exact sameDefined_putResult (sameDefined_msgOutput hnoted hkey hdin)
      (sameDefined_putTag htag (sameDefined_msgCounter (sameDefined_noteDinRead hnoted)))

/-- Performed, refused or ignored, a command gives the same in both states (R225). -/
theorem agree_exec (i : Instr) (hinv : s.Inv) (h : s.SameDefined s') :
    ∃ t t', exec i s = .next t ∧ exec i s' = .next t' ∧ AgreeIfClean t t' := by
  have hkey : ∀ {cs : List Check}, .keyLoaded ∈ cs → (∀ c ∈ cs, c.fails s = false) → s.status.keyValid = true :=
    fun hmem hpass => by simpa [Check.fails] using hpass _ hmem
  cases i
  case nop => exact ⟨s, s', rfl, rfl, fun _ => h⟩
  case clearErr => exact ⟨_, _, rfl, rfl, fun _ => sameDefined_clearErr h⟩
  case loadKey => exact ⟨_, _, rfl, rfl, agree_checked h (by simp) fun _ => agree_loadKey h⟩
  case encBlock =>
    exact ⟨_, _, rfl, rfl, agree_checked h (by simp) fun hpass =>
      agree_result h (sameDefined_transformBlock true h (hkey (by simp) hpass))⟩
  case decBlock =>
    exact ⟨_, _, rfl, rfl, agree_checked h (by simp) fun hpass =>
      agree_result h (sameDefined_transformBlock false h (hkey (by simp) hpass))⟩
  case round k =>
    exact ⟨_, _, rfl, rfl, agree_checked h (by simp) fun hpass => agree_result h fun hdin =>
      congrArg _ (sameDefined_roundOutput k h (hkey (by simp) hpass) hdin)⟩
  case ecbEncStart | ecbDecStart | ctrEncStart | ctrDecStart =>
    exact ⟨_, _, rfl, rfl, agree_checked h (by simp) fun _ _ => sameDefined_startMsg _ _ h⟩
  case msgBlock =>
    refine ⟨_, _, rfl, rfl, agree_checked h (by simp) fun hpass => agree_msgBlock h (hinv.activeKey ?_)⟩
    simpa [Check.fails] using hpass .inMessage (by simp)
  case msgEnd => exact ⟨_, _, rfl, rfl, agree_checked h (by simp) fun _ _ => sameDefined_endMsg h⟩

end Commands

/-! ## The events and the step -/

section Events

variable {s s' : State}

theorem agree_coreStep (hinv : s.Inv) (h : s.SameDefined s') :
    ∃ t t', coreStep s = .next t ∧ coreStep s' = .next t' ∧ AgreeIfClean t t' := by
  have hpending := sameDefined_pending h
  cases hp : s.pending with
  | none => exact ⟨s, s', by simp [coreStep, hp], by simp [coreStep, hpending, hp], fun _ => h⟩
  | some v =>
    cases hd : decode v with
    | error e =>
      exact ⟨_, _, coreStep_of_error hp hd, coreStep_of_error (hpending.trans hp) hd,
        fun hclean => sameDefined_freeLatch (agree_illegalWord h hclean)⟩
    | ok i =>
      obtain ⟨t, t', ht, ht', hagree⟩ := agree_exec i hinv h
      exact ⟨_, _, coreStep_of_ok hp hd ht, coreStep_of_ok (hpending.trans hp) hd ht',
        fun hclean => sameDefined_freeLatch (hagree hclean)⟩

theorem sameDefined_unlessBusy {store : State → State} (h : s.SameDefined s')
    (hstore : (store s).SameDefined (store s')) : (unlessBusy store s).SameDefined (unlessBusy store s') := by
  unfold unlessBusy
  rw [sameDefined_status h]
  split
  · exact sameDefined_raiseErr _ h
  · exact hstore

/-- A host write reads no register (R222). -/
theorem sameDefined_hostWrite (idx : RegIndex) (v : Word) (h : s.SameDefined s') :
    (hostWrite idx v s).SameDefined (hostWrite idx v s') := by
  have haccess := sameDefined_raiseErr .access h
  cases hr : regOfIndex idx with
  | none => simpa only [hostWrite, hr] using haccess
  | some r =>
    cases r <;> simp only [hostWrite, hr]
    case cmd => exact sameDefined_unlessBusy h (sameDefined_latch v h)
    case din => exact sameDefined_unlessBusy h (sameDefined_storeDin v h)
    case dinTag => exact sameDefined_unlessBusy h (sameDefined_storeDinTag v h)
    all_goals exact haccess

/-- What a host read owes two states that agree: if it leaves the run unmarked, it returns the same value. -/
def ReadsAgree (r r' : Word × State) : Prop := r.2.cleanRun → r'.1 = r.1 ∧ r.2.SameDefined r'.2

theorem readsAgree_noteUnspec {w w' : Word} {u : UnspecUse} {c : Bool} (h : s.SameDefined s')
    (hw : c = false → w' = w) : ReadsAgree (w, noteUnspec u c s) (w', noteUnspec u c s') :=
  fun hclean => ⟨hw (cleanRun_noteUnspec.1 hclean).2, sameDefined_noteUnspec u c h⟩

theorem readsAgree_readResult {w w' : Word} {u : UnspecUse} {c : Bool} (h : s.SameDefined s')
    (hw : c = false → w' = w) : ReadsAgree (readResult w u c s) (readResult w' u c s') := by
  intro hclean
  obtain ⟨hidle, -⟩ := cleanRun_readResult hclean
  have hidle' : s'.status.busy = false := (congrArg Status.busy (sameDefined_status h)).trans hidle
  simp only [readResult, hidle] at hclean
  simp only [readResult, hidle, hidle']
  exact readsAgree_noteUnspec h hw hclean

theorem readsAgree_readDout (h : s.SameDefined s') : ReadsAgree (readDout s) (readDout s') := by
  intro hclean
  have hstatus := sameDefined_status h
  obtain ⟨hidle, hvalid⟩ := cleanRun_readResult (s := s) hclean
  obtain ⟨hvalue, hafter⟩ := readsAgree_readResult (u := .readNoResult) (c := !s.status.doutValid) h
    (fun hc => h.dout (by simpa using hc)) hclean
  simp only [readDout, hstatus, hidle, Bool.false_and]
  exact ⟨hvalue, sameDefined_setPending false hafter⟩

theorem readsAgree_hostRead (idx : RegIndex) (h : s.SameDefined s') :
    ReadsAgree (hostRead idx s) (hostRead idx s') := by
  have hstatus := sameDefined_status h
  cases hr : regOfIndex idx with
  | none =>
    simp only [hostRead, hr]
    exact fun _ => ⟨rfl, sameDefined_raiseErr _ h⟩
  | some r =>
    cases r <;> simp only [hostRead, hr]
    case cmd => exact fun _ => ⟨rfl, h⟩
    case status => exact fun _ => ⟨congrArg Status.word hstatus, h⟩
    case din =>
      rw [sameDefined_dinUnwritten h]
      exact readsAgree_noteUnspec h h.din
    case dinTag =>
      rw [sameDefined_dinTagUnwritten h]
      exact readsAgree_noteUnspec h fun hc => congrArg _ (h.dinTag hc)
    case dout => exact readsAgree_readDout h
    case doutTag =>
      rw [sameDefined_doutTagUnwritten h]
      exact readsAgree_readResult h fun hc => congrArg _ (h.doutTag hc)
    case ctr => exact readsAgree_readResult h fun _ => sameDefined_ctr h
    case key =>
      rw [hstatus]
      exact readsAgree_readResult h fun hc => (h.key (by simpa using hc)).1
    case sk i =>
      rw [hstatus]
      exact readsAgree_readResult h fun hc => by rw [(h.key (by simpa using hc)).2]

/-- The host keeps the same value. -/
theorem agree_readEvent (idx : RegIndex) (h : s.SameDefined s') :
    AgreeIfClean (readEvent idx s) (readEvent idx s') := by
  intro hclean
  obtain ⟨hvalue, hafter⟩ := readsAgree_hostRead idx h hclean
  rw [readEvent, readEvent, hvalue]
  exact sameDefined_logRead idx _ hafter

theorem sameDefined_waitEvent (polls : Nat) (h : s.SameDefined s') :
    (waitEvent polls s).SameDefined (waitEvent polls s') := by
  have hlog := sameDefined_logRead (indexOfReg .status) s.status.word h
  rw [waitEvent_eq, waitEvent_eq, sameDefined_status h]
  split
  · exact sameDefined_listFirst _ hlog
  · exact hlog

theorem agree_applyEvent (e : Event) (hinv : s.Inv) (h : s.SameDefined s') :
    ∃ t t', applyEvent e s = .next t ∧ applyEvent e s' = .next t' ∧ AgreeIfClean t t' := by
  cases e with
  | write idx v => exact ⟨_, _, rfl, rfl, fun _ => sameDefined_hostWrite idx v h⟩
  | read idx => exact ⟨_, _, rfl, rfl, agree_readEvent idx h⟩
  | core => exact agree_coreStep hinv h
  | rst => exact ⟨_, _, rfl, rfl, fun _ => sameDefined_resetEvent h⟩
  | wait polls => exact ⟨_, _, rfl, rfl, fun _ => sameDefined_waitEvent polls h⟩

theorem agree_step (hinv : s.Inv) (h : s.SameDefined s') :
    ∃ t t', step s = .next t ∧ step s' = .next t' ∧ AgreeIfClean t t' := by
  have hschedule := sameDefined_schedule h
  cases hs : s.schedule with
  | nil =>
    rw [step_of_nil hs, step_of_nil (hschedule.trans hs)]
    exact agree_coreStep hinv h
  | cons e es =>
    rw [step_of_event hs, step_of_event (hschedule.trans hs)]
    exact agree_applyEvent e (inv_withSchedule es hinv) (sameDefined_withSchedule es h)

end Events

/-- Settles O57: the step of both states, given that the first leaves the run unmarked. -/
theorem cleanRunIgnoresUnspecifiedValues : Obligations.CleanRunIgnoresUnspecifiedValues := by
  intro s s' t hinv h hstep hclean
  obtain ⟨u, t', hu, ht', hagree⟩ := agree_step hinv h
  obtain rfl : t = u := Host.Outcome.next.inj (hstep.symm.trans hu)
  exact ⟨t', ht', hagree hclean⟩

end Sys2Proof.Machine
end

section
/-! PROOFS. Host accesses at the register map: what stays while a command is pending, the reads of registers that are
UNSPECIFIED while BUSY = 1, and the accesses that record ACCESS (20_memory.md R53, R58, R66; 45_control.md R223). -/

namespace Sys2Proof.Machine

/-! ## The operands of a pending command -/

section Operands

variable {s t : State}

/-- While BUSY = 1 a host write stores nothing: it records BUSY or ACCESS (R222). -/
theorem hostWrite_of_busy (idx : RegIndex) (v : Word) (hbusy : s.status.busy = true) :
    hostWrite idx v s = raiseErr .busy s ∨ hostWrite idx v s = raiseErr .access s := by
  rcases hostWrite_cases idx v s with ⟨hidle, -⟩ | hw
  · simp [hbusy] at hidle
  · exact hw

theorem operands_hostWrite_of_busy (idx : RegIndex) (v : Word) (hbusy : s.status.busy = true) :
    (hostWrite idx v s).din = s.din ∧ (hostWrite idx v s).dinTag = s.dinTag ∧
      (hostWrite idx v s).pending = s.pending := by
  rcases hostWrite_of_busy idx v hbusy with hw | hw <;> simp [hw]

theorem operands_readEvent (idx : RegIndex) :
    (readEvent idx s).din = s.din ∧ (readEvent idx s).dinTag = s.dinTag ∧ (readEvent idx s).pending = s.pending := by
  rcases hostRead_cases idx s with hr | hr | ⟨u, c, hr | hr | ⟨b, -, hr | hr⟩⟩ <;> simp [readEvent, hr]

theorem operands_waitEvent (polls : Nat) :
    (waitEvent polls s).din = s.din ∧ (waitEvent polls s).dinTag = s.dinTag ∧
      (waitEvent polls s).pending = s.pending := by
  rw [waitEvent_eq]
  split <;> simp

/-- The core's turn ends every pending word, and BUSY with it (R225). -/
theorem coreStep_clears_busy (hstep : coreStep s = .next t) (hpending : s.pending ≠ none) :
    t.status.busy = false := by
  rcases coreStep_next_cases hstep with ⟨hnone, -⟩ | ⟨v, -, ⟨e, -, rfl⟩ | ⟨i, u, -, -, -, rfl⟩⟩
  · exact absurd hnone hpending
  · rfl
  · rfl

end Operands

/-- Settles O20: an access leaves the operands, and after RST or the core's turn BUSY is 0. -/
theorem operandsStableWhileBusy : Obligations.OperandsStableWhileBusy := by
  intro s t hstep hbusy hbusy' hpending
  obtain ⟨es, ⟨idx, v, -, rfl⟩ | ⟨idx, -, rfl⟩ | ⟨-, rfl⟩ | ⟨polls, -, rfl⟩ | ⟨-, hcore⟩⟩ := step_next_cases hstep
  · exact operands_hostWrite_of_busy idx v hbusy
  · exact operands_readEvent idx
  · cases hbusy'
  · exact operands_waitEvent polls
  · rw [coreStep_clears_busy hcore hpending] at hbusy'
    cases hbusy'

/-! ## Reads while BUSY = 1 -/

/-- The registers whose value is UNSPECIFIED while BUSY = 1 (R58). -/
def UnspecWhileBusy (r : Reg) : Prop :=
  r = .dout ∨ r = .doutTag ∨ r = .ctr ∨ r = .key ∨ ∃ i, r = .sk i

/-- Their indices are the two ranges of the register map (R20). -/
theorem exists_unspecWhileBusy {idx : RegIndex}
    (h : (0x04#8 ≤ idx ∧ idx ≤ 0x07#8) ∨ (0x10#8 ≤ idx ∧ idx ≤ 0x1F#8)) :
    ∃ r : Reg, idx = indexOfReg r ∧ UnspecWhileBusy r := by
  cases hr : regOfIndex idx with
  | none =>
    have hreserved := (regOfIndex_eq_none_iff idx).1 hr
    simp only [BitVec.le_def, BitVec.toNat_ofNat] at h hreserved
    omega
  | some r =>
    obtain rfl := eq_indexOfReg_of_regOfIndex hr
    refine ⟨r, rfl, ?_⟩
    cases r
    case cmd | status | din | dinTag => exact absurd h (by decide)
    all_goals simp [UnspecWhileBusy]

section BusyReads

variable {s : State}

/-- The state after a read of an UNSPECIFIED register while BUSY = 1: a free value is taken and the run marked, unless
it is marked already (U5, log 3). -/
theorem readResult_of_busy (w : Word) (u : UnspecUse) (c : Bool) (hbusy : s.status.busy = true) :
    readResult w u c s = (Config.freeWord s.freeCtr,
      { s with runFault := some (s.runFault.getD .readBusy), freeCtr := s.freeCtr + 1 }) := by
  have hmark : s.runFault.or (some .readBusy) = some (s.runFault.getD .readBusy) := Option.or_some
  simp [readResult, hbusy, takeFree, noteUnspec, hmark]

/-- Such a read returns a free value; DOUT_PENDING is written by a read of DOUT only, and then to 0 or under
DOUT_VALID (R223, log 3). -/
theorem hostRead_of_busy {r : Reg} (hr : UnspecWhileBusy r) (hbusy : s.status.busy = true) :
    ∃ b, (r ≠ .dout → b = s.status.doutPending) ∧ (r = .dout → b = true → s.status.doutValid = true) ∧
      hostRead (indexOfReg r) s = (Config.freeWord s.freeCtr, setPending b
        { s with runFault := some (s.runFault.getD .readBusy), freeCtr := s.freeCtr + 1 }) := by
  rw [hostRead, regOfIndex_indexOfReg]
  rcases hr with rfl | rfl | rfl | rfl | ⟨i, rfl⟩
  case inl =>
    refine ⟨s.status.busy && Config.freeBit s.freeCtr && s.status.doutValid, by simp, fun _ hb => ?_, ?_⟩
    · exact (Bool.and_eq_true_iff.1 hb).2
    · simp only [readDout, readResult_of_busy _ _ _ hbusy]
  all_goals exact ⟨s.status.doutPending, fun _ => rfl, by simp, readResult_of_busy _ _ _ hbusy⟩

end BusyReads

/-- Settles O22: STATUS shows its flag BUSY, and the two ranges are the registers of R58. -/
theorem hostReadWhileBusy : Obligations.HostReadWhileBusy := by
  intro s idx es hs hbusy
  rw [step_of_event hs]
  refine ⟨?_, fun hrange => ?_⟩
  · rintro rfl
    exact ⟨s.status.word, (busyBit_word s.status).trans hbusy, rfl⟩
  · obtain ⟨r, rfl, hr⟩ := exists_unspecWhileBusy hrange
    obtain ⟨b, hkept, hvalid, hread⟩ := hostRead_of_busy (s := { s with schedule := es }) hr hbusy
    have hdout : indexOfReg r = 0x04#8 ↔ r = .dout := by
      rw [eq_comm, ← regOfIndex_eq_some_iff]
      exact Option.some_inj.trans eq_comm
    refine ⟨Config.freeWord s.freeCtr, b, s.runFault.getD .readBusy, fun hne => hkept (mt hdout.2 hne),
      fun heq => hvalid (hdout.1 heq), fun hnone => by rw [hnone, Option.getD_none], ?_⟩
    simp only [applyEvent, readEvent, hread]
    rfl

/-! ## Reserved indices and read-only registers -/

/-- A read of a reserved index returns 0 and records ACCESS (R53). -/
theorem hostRead_of_reserved {s : State} {idx : RegIndex} (h : regOfIndex idx = none) :
    hostRead idx s = (0#64, raiseErr .access s) := by
  simp only [hostRead, h]

/-- CMD, DIN and DIN_TAG are the only registers a host write reaches (R53, R222). -/
theorem hostWrite_of_readOnly {s : State} {idx : RegIndex} (v : Word) (h : idx = 0x01#8 ∨ 0x04#8 ≤ idx) :
    hostWrite idx v s = raiseErr .access s := by
  cases hr : regOfIndex idx with
  | none => simp only [hostWrite, hr]
  | some r =>
    obtain rfl := eq_indexOfReg_of_regOfIndex hr
    cases r
    case cmd | din | dinTag => exact absurd h (by decide)
    all_goals simp only [hostWrite, hr]

/-- Settles O23: by the register an index selects. -/
theorem reservedAndReadOnlyAccesses : Obligations.ReservedAndReadOnlyAccesses := by
  refine ⟨rfl, fun s idx v es => ⟨fun hs hreserved => ?_, fun hs hreadOnly => ?_, fun hs hcmd => ?_⟩⟩
  · rw [step_of_event hs, applyEvent, readEvent, hostRead_of_reserved ((regOfIndex_eq_none_iff idx).2 hreserved)]
    rfl
  · rw [step_of_event hs, applyEvent, hostWrite_of_readOnly v hreadOnly]
  · subst hcmd
    exact step_of_event hs

end Sys2Proof.Machine
end

section
/-! PROOFS. The encoding: decode and encode are inverse (30_encoding.md R70 to R77, R82), a word that is no command
(R73 to R75), and the host's `DO`, whose result does not depend on the number of its polls (R81, R282). -/

namespace Sys2Proof.Machine

/-! ## Decoding and encoding -/

@[simp] theorem fieldsOf_encode (i : Instr) : fieldsOf (encode i) = fieldsOfInstr i :=
  Laws.Decode.fieldsOf_wordOf _

@[simp] theorem decode_encode (i : Instr) : decode (encode i) = .ok i := by
  have hsksel : ¬ (opcodeOf i ≠ 0x04#8 ∧ skselOf i ≠ 0#4) := by cases i <;> simp [opcodeOf, skselOf]
  simp only [decode, fieldsOf_encode, fieldsOfInstr, Laws.Decode.commandOf_opcodeOf, if_neg hsksel, ne_eq,
    not_true_eq_false, if_false]

theorem decode_eq_ok_iff (v : Word) (i : Instr) : decode v = .ok i ↔ v = encode i :=
  ⟨eq_encode_of_decode, fun h => h ▸ decode_encode i⟩

/-- Settles O1: the two directions are `eq_encode_of_decode` and `decode_encode`. -/
theorem decodeInvertsEncodeBothWays : Obligations.DecodeInvertsEncodeBothWays := decode_eq_ok_iff

/-- Every command, ROUND once per SKSEL. -/
def commands : List Instr :=
  [.nop, .loadKey, .encBlock, .decBlock, .ecbEncStart, .ecbDecStart, .ctrEncStart, .ctrDecStart, .msgBlock, .msgEnd,
    .clearErr] ++ (List.range 16).map fun n => .round (BitVec.ofNat 4 n)

theorem mem_commands (i : Instr) : i ∈ commands := by
  cases i
  case round k =>
    exact List.mem_append_right _
      (List.mem_map.2 ⟨k.toNat, List.mem_range.2 k.isLt, by simp⟩)
  all_goals exact List.mem_append_left _ (by decide)

/-- Settles O2: the list is the image under `encode` of the list of all commands. -/
theorem legalWordsAreThe27Listed : Obligations.LegalWordsAreThe27Listed := by
  intro v
  change _ ↔ v ∈ commands.map encode
  rw [List.mem_map]
  constructor
  · rintro ⟨i, h⟩
    exact ⟨i, mem_commands i, (eq_encode_of_decode h).symm⟩
  · rintro ⟨i, -, rfl⟩
    exact ⟨i, decode_encode i⟩

/-- Settles O3: seven words are their command's; the decoder computes which check the other three fail. -/
theorem sampleWordsDecode : Obligations.SampleWordsDecode :=
  ⟨decode_encode .nop, decode_encode .loadKey, decode_encode .decBlock, decode_encode (.round 15#4),
    decode_encode .ctrDecStart, decode_encode .msgBlock, decode_encode .clearErr, rfl, rfl, rfl⟩

/-! ## Words that are no command -/

/-- The fields of a word that decodes pass the three checks (R73, R74, R75). -/
theorem wellFormed_of_decode {v : Word} {i : Instr} (h : decode v = .ok i) : (fieldsOf v).wellFormed = true := by
  rw [eq_encode_of_decode h, fieldsOf_encode]
  exact Laws.Decode.fields_wellFormed i

theorem exists_decode_error {v : Word} (h : (fieldsOf v).wellFormed = false) : ∃ e, decode v = .error e := by
  cases hd : decode v with
  | error e => exact ⟨e, rfl⟩
  | ok i => rw [wellFormed_of_decode hd] at h; cases h

/-- A reserved bit set, a reserved OP, or SKSEL not 0 outside ROUND: one of the three checks fails. -/
theorem wellFormed_eq_false {f : CommandFields}
    (h : f.res ≠ 0#52 ∨ 0x0C#8 ≤ f.op ∨ (f.op ≠ 0x04#8 ∧ f.sksel ≠ 0#4)) : f.wellFormed = false := by
  rcases h with hres | hop | ⟨hop, hsksel⟩
  · simp [CommandFields.wellFormed, CommandFields.resOk, hres]
  · have : ¬ f.op ≤ 0x0B#8 := by bv_omega
    simp [CommandFields.wellFormed, CommandFields.opOk, this]
  · simp [CommandFields.wellFormed, CommandFields.skselOk, hop, hsksel]

/-- Settles O4: such a word does not decode, and the core's turn raises ILLEGAL and frees the latch. -/
theorem illegalWordRecordsIllegalOnly : Obligations.IllegalWordRecordsIllegalOnly := by
  intro s v es hs hpending herr hillegal
  refine ⟨?_, rfl⟩
  obtain ⟨e, hd⟩ := exists_decode_error (wellFormed_eq_false (f := fieldsOf v) hillegal)
  have hraise : illegalWord { s with schedule := es } = raiseErr .illegal { s with schedule := es } :=
    unlessErr_of_none herr
  rw [step_of_core (.inl hs), coreStep_of_error (s := { s with schedule := es }) hpending hd, hraise]
  simp only [freeLatch, raiseErr, Status.afterRaise, herr, Option.none_or]

/-! ## The schedule and the host's reads take no part in a command

They are the model's own records (logs 5 and 8): a command answers the same whatever they hold. -/

/-- `s` with other events to come and other reads made. -/
def withRecords (es : List Event) (rs : List (RegIndex × Word)) (s : State) : State :=
  { s with schedule := es, reads := rs }

/-- `f` does the same to the rest of the state whatever the records are, and leaves them. -/
def IgnoresRecords (f : State → State) : Prop :=
  ∀ (es : List Event) (rs : List (RegIndex × Word)) (s : State), f (withRecords es rs s) = withRecords es rs (f s)

section Records

variable {f : State → State}

theorem firstFailing_withRecords (cs : List Check) (es : List Event) (rs : List (RegIndex × Word)) (s : State) :
    firstFailing cs (withRecords es rs s) = firstFailing cs s :=
  firstFailing_congr fun c _ => by cases c <;> rfl

theorem ignoresRecords_guarded (cs : List Check) (hf : IgnoresRecords f) : IgnoresRecords (guarded cs f) := by
  intro es rs s
  rcases guarded_cases cs f s with ⟨e, he, h⟩ | ⟨hpass, h⟩
  · rw [h, guarded_of_fail ((firstFailing_withRecords cs es rs s).trans he)]
    rfl
  · rw [h, guarded_of_pass ((firstFailing_withRecords cs es rs s).trans hpass), hf]

theorem ignoresRecords_unlessErr (hf : IgnoresRecords f) : IgnoresRecords (unlessErr f) := by
  intro es rs s
  rcases unlessErr_cases f s with ⟨herr, h⟩ | ⟨herr, h⟩
  · rw [h, unlessErr_of_some (s := withRecords es rs s) herr]
  · rw [h, unlessErr_of_none (s := withRecords es rs s) herr, hf]

theorem ignoresRecords_msgCounter : IgnoresRecords msgCounter := by
  intro es rs s
  cases hmode : s.status.mode with
  | ecb => rw [msgCounter_of_ecb hmode, msgCounter_of_ecb (s := withRecords es rs s) hmode]
  | ctr => rw [msgCounter_of_ctr hmode, msgCounter_of_ctr (s := withRecords es rs s) hmode]; rfl

theorem ignoresRecords_msgBlockEffect : IgnoresRecords msgBlockEffect := fun es rs s =>
  congrArg (putResult (msgOutput s)) (congrArg (putTag s.dinTag) (ignoresRecords_msgCounter es rs (noteDinRead s)))

/-- A command that is its checks and one effect. -/
theorem next_checked_withRecords {cs : List Check} (es : List Event) (rs : List (RegIndex × Word)) (s : State)
    (hf : IgnoresRecords f) :
    .next (unlessErr (guarded cs f) (withRecords es rs s)) =
      thenState (withRecords es rs) (.next (unlessErr (guarded cs f) s)) :=
  congrArg Host.Outcome.next (ignoresRecords_unlessErr (ignoresRecords_guarded cs hf) es rs s)

/-- Performing a command commutes with a change of the records: no check and no effect reads or writes them. -/
theorem exec_withRecords (i : Instr) (es : List Event) (rs : List (RegIndex × Word)) (s : State) :
    exec i (withRecords es rs s) = thenState (withRecords es rs) (exec i s) := by
  cases i
  case nop | clearErr => rfl
  case msgBlock =>
    refine next_checked_withRecords es rs s fun es rs s => ?_
    exact ignoresRecords_guarded _ ignoresRecords_msgBlockEffect es rs (noteTagRead s)
  all_goals
    refine next_checked_withRecords es rs s ?_
    intro es rs s
    rfl

end Records

/-! ## WAIT and DO -/

theorem nextEvents_succ {s t : State} (n : Nat) (h : step s = .next t) : nextEvents (n + 1) s = nextEvents n t := by
  rw [nextEvents, show nextEvent s = .next t from h]

/-- A read of WAIT's loop, with the rest of the loop listed again while BUSY = 1 (R81). -/
theorem step_of_wait {s : State} {n : Nat} {es : List Event} (h : s.schedule = .wait n :: es) :
    step s = .next { s with
      schedule := if s.status.busy then waitEvents n ++ es else es
      reads := s.reads ++ [(0x01#8, s.status.word)] } := by
  rw [step_of_event h, applyEvent, waitEvent_eq]
  cases s.status.busy <;> simp [listFirst, logRead, indexOfReg]

theorem exists_wait_mem (n : Nat) : ∃ m, .wait m ∈ waitEvents n := by
  cases n with
  | zero => exact ⟨0, by simp [waitEvents]⟩
  | succ n => exact ⟨n, by simp [waitEvents]⟩

/-- The polls of a WAIT while BUSY = 1: each reads the same STATUS, and the core's turn comes after the last. -/
theorem nextEvents_polls (p k : Nat) (es : List Event) (s : State) (hbusy : s.status.busy = true) :
    nextEvents (p + k) { s with schedule := waitEvents p ++ es } =
      nextEvents k (withRecords (.core :: .wait 0 :: es)
        (s.reads ++ List.replicate p (0x01#8, s.status.word)) s) := by
  induction p generalizing s with
  | zero => simp [waitEvents, withRecords]
  | succ p ih =>
    rw [Nat.succ_add, nextEvents_succ _ (step_of_wait rfl)]
    have h := ih { s with reads := s.reads ++ [(0x01#8, s.status.word)] } hbusy
    simpa [hbusy, withRecords, List.replicate_succ] using h

/-- The core's turn with a command pending, and the read that ends the WAIT. -/
theorem nextEvents_core_wait {s t : State} {i : Instr} (es : List Event) (rs : List (RegIndex × Word))
    (hpending : s.pending = some (encode i)) (hexec : exec i s = .next t) :
    nextEvents 2 (withRecords (.core :: .wait 0 :: es) rs s) =
      .next (withRecords es (rs ++ [(0x01#8, (freeLatch t).status.word)]) (freeLatch t)) := by
  have hcore : step (withRecords (.core :: .wait 0 :: es) rs s) =
      .next (withRecords (.wait 0 :: es) rs (freeLatch t)) := by
    rw [step_of_event rfl]
    exact coreStep_of_ok (t := withRecords (.wait 0 :: es) rs t) hpending (decode_encode i)
      ((exec_withRecords i _ rs s).trans (congrArg (thenState _) hexec))
  rw [nextEvents_succ _ hcore, nextEvents_succ _ (step_of_wait rfl), nextEvents]
  rfl

/-- `DO <command>` from BUSY = 0 (R81, R282): after the write of CMD, the polls, the core's turn and the last read, the
state is the command's but for the reads. -/
theorem nextEvents_do {s t : State} {i : Instr} (p : Nat) (es : List Event) (hbusy : s.status.busy = false)
    (hexec : exec i (latch (encode i) s) = .next t) :
    nextEvents (p + 3) { s with schedule := doEvents i p ++ es } =
      .next (withRecords es (s.reads ++ List.replicate p (0x01#8, (latch (encode i) s).status.word) ++
        [(0x01#8, (freeLatch t).status.word)]) (freeLatch t)) := by
  have hwrite : step { s with schedule := doEvents i p ++ es } =
      .next { latch (encode i) s with schedule := waitEvents p ++ es } := by
    rw [step_of_event rfl, applyEvent, hostWrite, regOfIndex_indexOfReg]
    simp [unlessBusy, hbusy, latch]
  rw [nextEvents_succ (p + 2) hwrite, nextEvents_polls p 2 es (latch (encode i) s) rfl,
    nextEvents_core_wait es _ rfl hexec]
  rfl

/-- Settles O50: a read of the loop, and both runs of DO by `nextEvents_do`. -/
theorem waitReadsUntilNotBusy : Obligations.WaitReadsUntilNotBusy := by
  refine ⟨fun s n es hs => ⟨s.status.word, busyBit_word s.status, fun hidle => ?_, fun hbusy => ?_⟩,
    fun s i p q es hidle => ?_⟩
  · have hbusy : s.status.busy = false := (busyBit_word s.status).symm.trans hidle
    rw [step_of_wait hs, hbusy]
    rfl
  · obtain ⟨m, hm⟩ := exists_wait_mem n
    have hbusy : s.status.busy = true := (busyBit_word s.status).symm.trans hbusy
    refine ⟨m, hm, ?_⟩
    rw [step_of_wait hs, hbusy]
    rfl
  · obtain ⟨t, hexec, -⟩ := exec_cases i (latch (encode i) s)
    exact ⟨_, _, nextEvents_do p es hidle hexec, nextEvents_do q es hidle hexec, rfl, rfl, rfl, rfl, _, _,
      busyBit_word (latch (encode i) s).status, busyBit_word (freeLatch t).status, rfl, rfl⟩

end Sys2Proof.Machine
end

section
/-! PROOFS. The tables of the block transformation as bit selections: the expansion's groups (40_tables.md R104) and the
inverse permutations IP and FP (R103). -/

namespace Sys2Proof.Machine

section TablePositions

variable {n m : Nat}

/-- `Permute` (R12) with positions counted from 0 at the most significant end: entry `p + 1` of the table takes input
position `p`. -/
theorem permute_getMsbD_of_entry {T : List Nat} {k p : Nat} (x : BitVec n) (hlen : T.length = m)
    (hentry : T[k]? = some (p + 1)) (hp : p < n) : (permute m T x).getMsbD k = x.getMsbD p := by
  have hpos : n - (p + 1) = n - 1 - p := by omega
  rw [Laws.Permute.permute_getMsbD T x hlen]
  simp [hentry, hpos, BitVec.getMsbD_eq_getLsbD, hp]

/-- `T` lists, for each position k in 1 to `T.length`, the place where the table `S` has the entry k. -/
def LocatesEntries (T S : List Nat) : Prop :=
  ∀ k < T.length, 1 ≤ T.getD k 0 ∧ S[T.getD k 0 - 1]? = some (k + 1)

/-- Such a `T` undoes the selection by `S`: each position comes back from the place to which `S` took it. -/
theorem permute_permute_of_locates {S T : List Nat} (x : BitVec n) (hS : S.length = m) (hT : T.length = n)
    (hloc : LocatesEntries T S) : permute n T (permute m S x) = x := by
  apply BitVec.eq_of_getMsbD_eq
  intro k hk
  obtain ⟨hpos, hentry⟩ := hloc k (hT ▸ hk)
  obtain ⟨hlt, -⟩ := List.getElem?_eq_some_iff.1 hentry
  have hback : T[k]? = some (T.getD k 0 - 1 + 1) := by
    rw [Nat.sub_add_cancel hpos]
    simp [hT, hk]
  rw [permute_getMsbD_of_entry _ hT hback (hS ▸ hlt), permute_getMsbD_of_entry x hS hentry hk]

end TablePositions

/-! ## The expansion -/

/-- R104: the entries of E by group, position 0 read as 32 and 33 as 1. -/
theorem tableE_entry : ∀ (g : Fin 8) (j : Fin 6),
    tableE[6 * g.val + j.val]? = some ((4 * g.val + j.val + 31) % 32 + 1) := by
  decide

/-- Settles O30: the selection takes the position that E lists. -/
theorem expansionGroups : Obligations.ExpansionGroups := fun r g j =>
  permute_getMsbD_of_entry r rfl (tableE_entry g j) (Nat.mod_lt _ (by decide))

/-! ## The initial and the final permutation -/

/-- R101, R102: FP lists where IP has each position. -/
theorem locatesEntries_FP_IP : LocatesEntries tableFP tableIP := by
  unfold LocatesEntries
  decide

/-- R101, R102: IP lists where FP has each position. -/
theorem locatesEntries_IP_FP : LocatesEntries tableIP tableFP := by
  unfold LocatesEntries
  decide

/-- Settles O33: each of the two tables locates the other's entries. -/
theorem finalPermutationInvertsInitial : Obligations.FinalPermutationInvertsInitial := fun x =>
  ⟨permute_permute_of_locates x rfl rfl locatesEntries_FP_IP,
    permute_permute_of_locates x rfl rfl locatesEntries_IP_FP⟩

end Sys2Proof.Machine
end

section
/-! PROOFS. The two key schedules as bit selections of the key (41_key_schedule.md R121 to R123), KeyIn (R124) and
LOAD_KEY (R125). -/

namespace Sys2Proof.Machine

/-! ## Masks and rotations -/

section BitSelections

variable {w : Nat}

/-- The masks M48 and M56 (R10) and their like keep the bits below `n`. -/
theorem getLsbD_and_lowMask (x : BitVec w) (n j : Nat) :
    (x &&& BitVec.ofNat w (2 ^ n - 1)).getLsbD j = (decide (j < n) && x.getLsbD j) := by
  rw [BitVec.getLsbD_and, BitVec.getLsbD_ofNat, Nat.testBit_two_pow_sub_one]
  by_cases hj : j < w
  · rw [decide_eq_true hj, Bool.true_and, Bool.and_comm]
  · simp [BitVec.getLsbD_of_ge x j (Nat.le_of_not_lt hj)]

/-- The low `n` bits, zero-extended, are the word under the mask of `n` ones. -/
theorem setWidth_extractLow (x : BitVec w) (n : Nat) :
    (x.extractLsb' 0 n).setWidth w = x &&& BitVec.ofNat w (2 ^ n - 1) := by
  apply BitVec.eq_of_getLsbD_eq
  intro j hj
  rw [getLsbD_and_lowMask, BitVec.getLsbD_setWidth, BitVec.getLsbD_extractLsb', decide_eq_true hj, Bool.true_and,
    Nat.zero_add]

/-- Rotations in a row rotate by the sum of their amounts. -/
theorem rotateLeft_rotateLeft (x : BitVec w) (a b : Nat) : (x.rotateLeft a).rotateLeft b = x.rotateLeft (a + b) := by
  apply BitVec.eq_of_getMsbD_eq
  intro p hp
  have hsum : (a + (b + p) % w) % w = (a + b + p) % w := by rw [Nat.add_mod_mod, Nat.add_assoc]
  simp [BitVec.getMsbD_rotateLeft, hp, hsum, Nat.mod_lt _ (Nat.zero_lt_of_lt hp)]

/-- Two values that agree at every position a table lists are permuted to the same value. -/
theorem permute_congr {m : Nat} {T : List Nat} {x y : BitVec w} (h : ∀ p ∈ T, x.getLsbD (w - p) = y.getLsbD (w - p)) :
    permute m T x = permute m T y := by
  unfold permute
  rw [List.map_congr_left h]

end BitSelections

/-! ## The simplified schedule (R121) -/

/-- `rotl_64(K, i)` bit by bit. -/
theorem getLsbD_rotateLeft_word (k : Word) {i j : Nat} (hi : i < 64) (hj : j < 64) :
    (k.rotateLeft i).getLsbD j = k.getLsbD ((j + 64 - i) % 64) := by
  rw [BitVec.getLsbD_rotateLeft_of_le hi]
  by_cases h : j < i
  · have hsource : (j + 64 - i) % 64 = 64 - i + j := by omega
    simp [h, hsource]
  · have hsource : (j + 64 - i) % 64 = j - i := by omega
    simp [h, hj, hsource]

theorem schedule_simplified_getElem (k : Word) (i : Fin 16) :
    (schedule .simplified k)[i] = (k.rotateLeft i.val).extractLsb' 0 48 :=
  Vector.getElem_ofFn i.isLt

/-- R121: bit j of subkey i is bit (j - i) mod 64 of the key. -/
theorem schedule_simplified_getLsbD (k : Word) (i : Fin 16) {j : Nat} (hj : j < 48) :
    ((schedule .simplified k)[i]).getLsbD j = k.getLsbD ((j + 64 - i.val) % 64) := by
  rw [schedule_simplified_getElem, BitVec.getLsbD_extractLsb', Nat.zero_add, decide_eq_true hj, Bool.true_and]
  exact getLsbD_rotateLeft_word k (by omega) (by omega)

/-- Settles O26: the subkey is the low 48 bits of a rotation, and a rotation by less than 64 is its two shifts. -/
theorem simplifiedSubkeyBits : Obligations.SimplifiedSubkeyBits := by
  refine fun k i => ⟨?_, fun j hj => schedule_simplified_getLsbD k i hj⟩
  have hrot : k.rotateLeft i.val = (k <<< i.val) ||| (k >>> (64 - i.val)) := by
    rw [BitVec.rotateLeft_def, Nat.mod_eq_of_lt (by omega : i.val < 64)]
  rw [schedule_simplified_getElem, hrot]
  exact setWidth_extractLow _ 48

/-! ## The canonical schedule (R122) -/

/-- The loop of R122 over any shift amounts: round i selects from the halves rotated by all amounts up to its own. -/
theorem canonicalRounds_getD (shifts : List Nat) (c d : BitVec 28) (i : Nat) (hi : i < shifts.length) :
    (canonicalRounds shifts c d).getD i 0#48 =
      permute 48 tablePC2
        (c.rotateLeft (shifts.take (i + 1)).sum ++ d.rotateLeft (shifts.take (i + 1)).sum) := by
  induction shifts generalizing c d i with
  | nil => exact absurd hi (Nat.not_lt_zero i)
  | cons n rest ih =>
    cases i with
    | zero => simp [canonicalRounds]
    | succ i =>
      have hrest := ih (c.rotateLeft n) (d.rotateLeft n) i (Nat.lt_of_succ_lt_succ hi)
      simpa [canonicalRounds, rotateLeft_rotateLeft] using hrest

/-- Settles O27: the loop's closed form at the 16 amounts of SHIFTS. -/
theorem canonicalSubkeysByTotalShift : Obligations.CanonicalSubkeysByTotalShift := by
  intro k i
  exact (Vector.getElem_ofFn i.isLt).trans (canonicalRounds_getD tableShifts _ _ i.val i.isLt)

/-! ## Key bits that reach no subkey (R123) -/

/-- R115: PC-1 takes no bit whose number is a multiple of 8. -/
theorem tablePC1_skips_low_bits : ∀ p ∈ tablePC1, (64 - p) % 8 ≠ 0 := by decide

/-- Settles O29: no (j - i) mod 64 with j < 48 and i < 16 is 48, and the canonical schedule reads the key through PC-1
only. -/
theorem unusedKeyBitsReachNoSubkey : Obligations.UnusedKeyBitsReachNoSubkey := by
  refine fun k k' => ⟨fun h => ?_, fun h => ?_⟩
  · apply Vector.ext
    intro i hi
    apply BitVec.eq_of_getLsbD_eq
    intro j hj
    have hbit : (j + 64 - i) % 64 ≠ 48 := by omega
    exact (schedule_simplified_getLsbD k ⟨i, hi⟩ hj).trans
      ((h _ hbit).trans (schedule_simplified_getLsbD k' ⟨i, hi⟩ hj).symm)
  · have hpc1 : permute 56 tablePC1 k = permute 56 tablePC1 k' :=
      permute_congr fun p hp => h _ (tablePC1_skips_low_bits p hp)
    simp only [schedule, scheduleCanonical, hpc1]

/-! ## KeyIn (R124) and LOAD_KEY (R125) -/

theorem keyIn_low56_getLsbD (v : Word) (j : Nat) : (keyIn .low56 v).getLsbD j = (decide (j < 56) && v.getLsbD j) :=
  getLsbD_and_lowMask v 56 j

/-- Settles O28: where the top byte is zero, every bit that LOW56 clears is 0 already. -/
theorem keyInputMaskClearsTopByte : Obligations.KeyInputMaskClearsTopByte := by
  refine ⟨rfl, fun v => ⟨rfl, keyIn_low56_getLsbD v, fun htop => ?_⟩⟩
  apply BitVec.eq_of_getLsbD_eq
  intro j hj
  rw [keyIn_low56_getLsbD]
  change _ = v.getLsbD j
  by_cases hlow : j < 56
  · simp [hlow]
  · have hzero : (v.extractLsb' 56 8).getLsbD (j - 56) = false := by rw [htop, BitVec.getLsbD_zero]
    have hbyte : j - 56 < 8 := by omega
    have hsource : 56 + (j - 56) = j := by omega
    rw [BitVec.getLsbD_extractLsb', decide_eq_true hbyte, Bool.true_and, hsource] at hzero
    rw [hzero, Bool.and_false]

/-- Settles O25: LOAD_KEY's one check is for a message (R247). -/
theorem loadKeyEffectAndError : Obligations.LoadKeyEffectAndError := by
  intro s herr
  have hexec : exec .loadKey s = .next (guarded [.noMessage] loadKeyEffect s) := congrArg _ (unlessErr_of_none herr)
  refine ⟨fun hidle => ⟨loadKeyEffect s, ?_, fun i => ?_, rfl⟩, fun hactive => ?_⟩
  · rw [hexec, guarded_of_pass (by simp [firstFailing, Check.fails, hidle])]
  · exact Vector.getElem_map _ i.isLt
  · rw [hexec, guarded_of_fail (e := .state) (by simp [firstFailing, Check.fails, Check.code, hactive])]

end Sys2Proof.Machine
end

section
/-! PROOFS. The round function (42_round_function.md): the substitution by nibbles (R143), the complement property of F
(R145), and ROUND (R146). -/

namespace Sys2Proof.Machine

/-! ## The substitution (R143) -/

/-- The boxes S1 to S8 (R107 to R114), one for each group. -/
def sboxTables : List (List (List Nat)) :=
  [tableS1, tableS2, tableS3, tableS4, tableS5, tableS6, tableS7, tableS8]

/-- R106: every entry of a box is a nibble. -/
theorem sboxTables_entry_lt : ∀ S ∈ sboxTables, ∀ row : Fin 4, ∀ col : Fin 16, (S.getD row []).getD col 0 < 16 := by
  decide

theorem sboxRow_lt (b : BitVec 6) : sboxRow b < 4 := by
  have hhigh := Bool.toNat_lt (b.getLsbD 5)
  have hlow := Bool.toNat_lt (b.getLsbD 0)
  unfold sboxRow
  omega

theorem sboxCol_lt (b : BitVec 6) : sboxCol b < 16 := BitVec.isLt _

/-- R106: the lookup in one of the eight boxes keeps the whole entry. -/
theorem sbox_toNat {S : List (List Nat)} (hS : S ∈ sboxTables) (b : BitVec 6) :
    (sbox S b).toNat = (S.getD (sboxRow b) []).getD (sboxCol b) 0 :=
  Nat.mod_eq_of_lt (sboxTables_entry_lt S hS ⟨_, sboxRow_lt b⟩ ⟨_, sboxCol_lt b⟩)

/-- The row of the group whose lowest bit is bit `p` (R106). -/
theorem sboxRow_extractLsb' (y : BitVec 48) (p : Nat) :
    sboxRow (y.extractLsb' p 6) = 2 * (y.getLsbD (p + 5)).toNat + (y.getLsbD p).toNat := by
  simp [sboxRow]

/-- The column of the group whose lowest bit is bit `p` (R106). -/
theorem sboxCol_extractLsb' (y : BitVec 48) (p : Nat) :
    sboxCol (y.extractLsb' p 6) = (y.extractLsb' (p + 1) 4).toNat := by
  refine congrArg BitVec.toNat (BitVec.eq_of_getLsbD_eq fun j hj => ?_)
  have hinner : 1 + j < 6 := by omega
  simp [hj, hinner, Nat.add_assoc]

/-- R143: group g stands at bits 47-6g to 42-6g of the input, its nibble at bits 31-4g to 28-4g of the result. (The
rules about `++` match only while the widths of the parts stand as sums.) -/
theorem substitute_extractLsb' (y : BitVec 48) (g : Fin 8) :
    (substitute y).extractLsb' (28 - 4 * g.val) 4 =
      sbox (sboxTables.getD g.val []) (y.extractLsb' (42 - 6 * g.val) 6) := by
  rw [substitute, BitVec.extractLsb'_cast]
  fin_cases g <;>
    simp [sboxTables, BitVec.extractLsb'_append_eq_of_le, BitVec.extractLsb'_append_eq_right, -Nat.reduceAdd]

/-- Settles O31: the nibble is the lookup of its group, whose row and column are bits of the input. -/
theorem substitutionNibbles : Obligations.SubstitutionNibbles := by
  intro y g
  have hbox : sboxTables.getD g.val [] ∈ sboxTables := by
    rw [List.getD_eq_getElem _ _ g.isLt]
    exact List.getElem_mem _
  have hrow := sboxRow_extractLsb' y (42 - 6 * g.val)
  have hcol := sboxCol_extractLsb' y (42 - 6 * g.val)
  rw [show 42 - 6 * g.val + 5 = 47 - 6 * g.val by omega] at hrow
  rw [show 42 - 6 * g.val + 1 = 43 - 6 * g.val by omega] at hcol
  refine ⟨hrow ▸ sboxRow_lt _, hcol ▸ sboxCol_lt _, ?_⟩
  rw [substitute_extractLsb', sbox_toNat hbox, hrow, hcol]
  rfl

/-! ## The complement property of F (R145) -/

/-- E only copies bits (R104), so it commutes with complement. -/
theorem expand_not (r : Half) : expand (~~~r) = ~~~(expand r) :=
  Laws.Permute.permute_not tableE r rfl (by decide)

/-- Settles O32: the two complements cancel in the key mixing. -/
theorem roundFunctionComplement : Obligations.RoundFunctionComplement := by
  intro r k
  have hmix : ~~~(expand r) ^^^ ~~~k = expand r ^^^ k := by
    apply BitVec.eq_of_getLsbD_eq
    intro j hj
    simp [hj]
  rw [feistel, expand_not, hmix, feistel]

/-! ## ROUND (R146) -/

/-- The checks of ROUND, ENC_BLOCK and DEC_BLOCK in the order of R247. -/
theorem firstFailing_transformChecks (s : State) :
    firstFailing [.noMessage, .keyLoaded, .resultRead] s =
      if s.status.msgActive then some .state else if !s.status.keyValid then some .noKey
      else if s.status.doutPending then some .unread else none := rfl

/-- A command behind these checks while ERR is 0: performed, or refused with STATE, NO_KEY or UNREAD. -/
theorem exec_of_transformChecks {s : State} {i : Instr} {f : State → State}
    (hexec : exec i s = .next (unlessErr (guarded [.noMessage, .keyLoaded, .resultRead] f) s))
    (herr : s.status.err = none) :
    (s.status.msgActive = false → s.status.keyValid = true → s.status.doutPending = false →
      exec i s = .next (f s)) ∧
    (s.status.msgActive = true → exec i s = .next (raiseErr .state s)) ∧
    (s.status.msgActive = false → s.status.keyValid = false → exec i s = .next (raiseErr .noKey s)) ∧
    (s.status.msgActive = false → s.status.keyValid = true → s.status.doutPending = true →
      exec i s = .next (raiseErr .unread s)) := by
  rw [hexec, unlessErr_of_none herr]
  have hfirst := firstFailing_transformChecks s
  refine ⟨fun hidle hkey hread => ?_, fun hactive => ?_, fun hidle hkey => ?_, fun hidle hkey hunread => ?_⟩
  · exact congrArg _ (guarded_of_pass (hfirst.trans (by simp [hidle, hkey, hread])))
  · exact congrArg _ (guarded_of_fail (hfirst.trans (by simp [hactive])))
  · exact congrArg _ (guarded_of_fail (hfirst.trans (by simp [hidle, hkey])))
  · exact congrArg _ (guarded_of_fail (hfirst.trans (by simp [hidle, hkey, hunread])))

theorem dinHalf_eq_setWidth (s : State) : dinHalf s = s.din.setWidth 32 :=
  (BitVec.setWidth_eq_extractLsb' (by decide)).symm

theorem subkey_eq_setWidth (s : State) (i : BitVec 4) : subkey s i = (s.sk[i.toNat]'i.isLt).setWidth 48 :=
  (BitVec.setWidth_eq_extractLsb' (by decide)).symm

/-- Settles O38: ROUND is its effect behind the checks of a command that makes a result. -/
theorem roundCommand : Obligations.RoundCommand := by
  intro s i herr
  rw [← dinHalf_eq_setWidth, ← subkey_eq_setWidth]
  exact exec_of_transformChecks (f := roundEffect i) rfl herr

end Sys2Proof.Machine
end

section
/-! PROOFS. The block transformation (43_block_core.md): its rounds (R160), the inverse (R170), the palindromic subkeys
(R171), the complement property (R172), and ENC_BLOCK and DEC_BLOCK (R167, R168). -/

namespace Sys2Proof.Machine

/-! ## A block as two halves (R161, R163) -/

/-- The halves (left, right) of a block. -/
def halvesOf (x : Word) : Half × Half := (x.extractLsb' 32 32, x.extractLsb' 0 32)

/-- The block of the halves (left, right). -/
def blockOf (lr : Half × Half) : Word := lr.1 ++ lr.2

@[simp] theorem halvesOf_blockOf (lr : Half × Half) : halvesOf (blockOf lr) = lr :=
  Prod.ext BitVec.extractLsb'_append_eq_left BitVec.extractLsb'_append_eq_right

@[simp] theorem blockOf_halvesOf (x : Word) : blockOf (halvesOf x) = x :=
  (BitVec.extractLsb'_append_extractLsb'_eq_extractLsb' rfl).trans BitVec.extractLsb'_eq_self

/-- R160: IP, the rounds, the output swap, FP. -/
theorem transformBlock_eq (b : Word) (sks : Vector Subkey 16) (forward : Bool) :
    transformBlock b sks forward =
      permute 64 tableFP
        (blockOf ((roundKeys sks forward).foldl feistelRound (halvesOf (permute 64 tableIP b))).swap) := rfl

/-! ## The subkeys in their order (R127) -/

theorem roundKeys_not (sks : Vector Subkey 16) (forward : Bool) :
    roundKeys sks (!forward) = (roundKeys sks forward).reverse := by
  cases forward <;> simp [roundKeys]

theorem roundKeys_map (f : Subkey → Subkey) (sks : Vector Subkey 16) (forward : Bool) :
    roundKeys (sks.map f) forward = (roundKeys sks forward).map f := by
  cases forward <;> simp [roundKeys, Vector.toList_map]

@[simp] theorem length_roundKeys (sks : Vector Subkey 16) (forward : Bool) : (roundKeys sks forward).length = 16 := by
  cases forward <;> simp [roundKeys]

theorem getElem_roundKeys (sks : Vector Subkey 16) (forward : Bool) (n : Nat) (hn : n < 16) :
    (roundKeys sks forward)[n]'(by simpa using hn) = if forward then sks[n] else sks[15 - n] := by
  cases forward <;> simp [roundKeys]

/-! ## The rounds -/

/-- Sequences of halves that obey the recurrence of R162 for one subkey after another are what the rounds compute. -/
theorem foldl_feistelRound_of_halves (ks : List Subkey) (l r : Nat → Half)
    (hround : ∀ (n : Nat) (hn : n < ks.length), l (n + 1) = r n ∧ r (n + 1) = l n ^^^ feistel (r n) ks[n]) :
    ks.foldl feistelRound (l 0, r 0) = (l ks.length, r ks.length) := by
  induction ks generalizing l r with
  | nil => rfl
  | cons k ks ih =>
    obtain ⟨hl, hr⟩ := hround 0 (Nat.zero_lt_succ _)
    have hfirst : feistelRound (l 0, r 0) k = (l 1, r 1) := Prod.ext hl.symm hr.symm
    rw [List.foldl_cons, hfirst]
    exact ih (fun n => l (n + 1)) (fun n => r (n + 1)) fun n hn => hround (n + 1) (Nat.succ_lt_succ hn)

/-- Settles O34: the rounds follow the given halves, and the subkey of each round is the one R127 names. -/
theorem transformBlockRoundsAndKeyOrder : Obligations.TransformBlockRoundsAndKeyOrder := by
  intro b sks forward l r hl hr hround
  have hfold := foldl_feistelRound_of_halves (roundKeys sks forward) l r fun n hn => by
    have hlt : n < 16 := by simpa using hn
    rw [getElem_roundKeys sks forward n hlt]
    exact hround ⟨n, hlt⟩
  rw [length_roundKeys] at hfold
  rw [transformBlock_eq, halvesOf, ← hl, ← hr, hfold]
  rfl

/-- A round with the same subkey, the halves exchanged before and after, undoes a round. -/
theorem feistelRound_swap (lr : Half × Half) (k : Subkey) :
    feistelRound (feistelRound lr k).swap k = lr.swap := by
  simp [feistelRound, Prod.swap]

/-- R170: the rounds with the subkeys in reverse order, begun from the exchanged halves, undo the rounds. -/
theorem foldl_feistelRound_reverse (ks : List Subkey) (lr : Half × Half) :
    ks.reverse.foldl feistelRound (ks.foldl feistelRound lr).swap = lr.swap := by
  induction ks generalizing lr with
  | nil => rfl
  | cons k ks ih =>
    rw [List.reverse_cons, List.foldl_append, List.foldl_cons (l := ks), ih]
    exact feistelRound_swap lr k

theorem transformBlock_transformBlock_not (b : Word) (sks : Vector Subkey 16) (forward : Bool) :
    transformBlock (transformBlock b sks forward) sks (!forward) = b := by
  rw [transformBlock_eq b, transformBlock_eq, (finalPermutationInvertsInitial _).2, halvesOf_blockOf, roundKeys_not,
    foldl_feistelRound_reverse, Prod.swap_swap, blockOf_halvesOf, (finalPermutationInvertsInitial b).1]

/-- Settles O35: the other direction undoes either one. -/
theorem blockRoundTrip : Obligations.BlockRoundTrip := fun b sks =>
  ⟨transformBlock_transformBlock_not b sks true, transformBlock_transformBlock_not b sks false⟩

/-! ## Palindromic subkeys (R171) -/

theorem roundKeys_of_palindromic {sks : Vector Subkey 16} (h : ∀ n : Fin 16, sks[n] = sks[15 - n.val]) :
    roundKeys sks true = roundKeys sks false := by
  apply List.ext_getElem (by simp)
  intro n hn _
  have hlt : n < 16 := by simpa using hn
  rw [getElem_roundKeys sks true n hlt, getElem_roundKeys sks false n hlt]
  exact h ⟨n, hlt⟩

theorem transformBlock_of_palindromic {sks : Vector Subkey 16} (h : ∀ n : Fin 16, sks[n] = sks[15 - n.val]) (b : Word) :
    transformBlock b sks true = transformBlock b sks false := by
  rw [transformBlock_eq, transformBlock_eq, roundKeys_of_palindromic h]

/-- A key that every rotation of R121 leaves as it is has one and the same simplified subkey in every round. -/
theorem schedule_simplified_palindromic {k : Word} (hk : ∀ i : Fin 16, k.rotateLeft i.val = k) (n : Fin 16) :
    (schedule .simplified k)[n] = (schedule .simplified k)[15 - n.val] := by
  have hconst (i : Fin 16) : (schedule .simplified k)[i] = k.extractLsb' 0 48 := by
    rw [schedule_simplified_getElem, hk]
  exact (hconst n).trans (hconst ⟨15 - n.val, by omega⟩).symm

theorem rotateLeft_zero_word : ∀ i : Fin 16, (0#64).rotateLeft i.val = 0#64 := by decide

theorem rotateLeft_M64 : ∀ i : Fin 16, M64.rotateLeft i.val = M64 := by decide

/-- Settles O36: the order of the subkeys is all that the direction changes. -/
theorem palindromicSubkeysMakeDirectionsEqual : Obligations.PalindromicSubkeysMakeDirectionsEqual := by
  refine ⟨fun b sks h => transformBlock_of_palindromic h b, fun b k hk => ?_⟩
  obtain rfl | rfl := hk
  · exact transformBlock_of_palindromic (schedule_simplified_palindromic rotateLeft_zero_word) b
  · exact transformBlock_of_palindromic (schedule_simplified_palindromic rotateLeft_M64) b

/-! ## Complements (R172) -/

/-- Both halves complemented. -/
def complementHalves (lr : Half × Half) : Half × Half := (~~~lr.1, ~~~lr.2)

theorem blockOf_complementHalves (lr : Half × Half) : blockOf (complementHalves lr) = ~~~(blockOf lr) :=
  BitVec.not_append.symm

theorem halvesOf_not (x : Word) : halvesOf (~~~x) = complementHalves (halvesOf x) := by
  rw [← halvesOf_blockOf (complementHalves (halvesOf x)), blockOf_complementHalves, blockOf_halvesOf]

/-- F is the same for both (R145), so the left half alone carries the complement to the new right half. -/
theorem feistelRound_complement (lr : Half × Half) (k : Subkey) :
    feistelRound (complementHalves lr) (~~~k) = complementHalves (feistelRound lr k) := by
  simp only [feistelRound, complementHalves, roundFunctionComplement lr.2 k, BitVec.not_xor_left]

theorem foldl_feistelRound_complement (ks : List Subkey) (lr : Half × Half) :
    (ks.map fun k => ~~~k).foldl feistelRound (complementHalves lr) =
      complementHalves (ks.foldl feistelRound lr) := by
  rw [List.foldl_map]
  exact List.foldl_hom complementHalves fun lr k => feistelRound_complement lr k

theorem transformBlock_complement (b : Word) (sks : Vector Subkey 16) (forward : Bool) :
    transformBlock (~~~b) (sks.map fun k => ~~~k) forward = ~~~(transformBlock b sks forward) := by
  have hIP : (permute 64 tableIP (~~~b) : Word) = ~~~(permute 64 tableIP b) :=
    Laws.Permute.permute_not tableIP b rfl (by decide)
  have hFP (x : Word) : (permute 64 tableFP (~~~x) : Word) = ~~~(permute 64 tableFP x) :=
    Laws.Permute.permute_not tableFP x rfl (by decide)
  have hswap (lr : Half × Half) : (complementHalves lr).swap = complementHalves lr.swap := rfl
  rw [transformBlock_eq, transformBlock_eq, hIP, halvesOf_not, roundKeys_map, foldl_feistelRound_complement, hswap,
    blockOf_complementHalves, hFP]

/-- R121: every bit of a simplified subkey is a bit of the key. -/
theorem schedule_simplified_not (k : Word) :
    schedule .simplified (~~~k) = (schedule .simplified k).map fun x => ~~~x := by
  apply Vector.ext
  intro i hi
  apply BitVec.eq_of_getLsbD_eq
  intro j hj
  have hsource : (j + 64 - i) % 64 < 64 := Nat.mod_lt _ (by decide)
  have hbit (k : Word) : ((schedule .simplified k)[i]).getLsbD j = k.getLsbD ((j + 64 - i) % 64) :=
    schedule_simplified_getLsbD k ⟨i, hi⟩ hj
  rw [Vector.getElem_map, BitVec.getLsbD_not, hbit, hbit, BitVec.getLsbD_not]
  simp [hj, hsource]

/-- Settles O37: each part of the transformation commutes with complement. -/
theorem blockComplementation : Obligations.BlockComplementation :=
  ⟨transformBlock_complement, schedule_simplified_not⟩

/-! ## ENC_BLOCK and DEC_BLOCK (R167, R168) -/

theorem subkeys_eq_map_setWidth (s : State) : subkeys s = s.sk.map fun r => r.setWidth 48 :=
  congrArg (s.sk.map ·) (funext fun _ => (BitVec.setWidth_eq_extractLsb' (by decide)).symm)

/-- Settles O39: the two commands are their effects behind the checks of a command that makes a result. -/
theorem encBlockAndDecBlockCommands : Obligations.EncBlockAndDecBlockCommands := by
  intro s i forward hi herr
  rw [← subkeys_eq_map_setWidth]
  obtain ⟨rfl, rfl⟩ | ⟨rfl, rfl⟩ := hi
  · exact exec_of_transformChecks (f := encBlockEffect) rfl herr
  · exact exec_of_transformChecks (f := decBlockEffect) rfl herr

end Sys2Proof.Machine
end

section
/-! PROOFS. The commands of the sequencer (44_modes.md R181 to R195): what each does behind its checks, what follows
from a short block (R186) and from the last counter value (R187), and which steps open and end a message (R180). -/

namespace Sys2Proof.Machine

/-! ## The words of the commands -/

/-- Every OP but ROUND's is one command's (R71). -/
theorem eq_of_opcodeOf_eq {i j : Instr} (hop : opcodeOf j = opcodeOf i) (hround : opcodeOf i ≠ 0x04#8) : j = i := by
  have hi := Laws.Decode.commandOf_opcodeOf i
  have hj := Laws.Decode.commandOf_opcodeOf j
  have hsksel : skselOf j = skselOf i :=
    ((Laws.Decode.commandOf_some hj).2.2 (hop ▸ hround)).trans ((Laws.Decode.commandOf_some hi).2.2 hround).symm
  rw [hop, hsksel, hi] at hj
  exact (Option.some.inj hj).symm

/-- A word with a command's OP that is not its word is no command, unless the OP is ROUND's. -/
theorem exists_decode_error_of_op {i : Instr} {v : Word} (hround : opcodeOf i ≠ 0x04#8)
    (hop : v.extractLsb' 0 8 = opcodeOf i) (hv : v ≠ encode i) : ∃ e, decode v = .error e := by
  cases hd : decode v with
  | error e => exact ⟨e, rfl⟩
  | ok j =>
    have hj : v = encode j := eq_encode_of_decode hd
    obtain ⟨hopj, -⟩ := Laws.WordShape.of_fields j
    have : j = i := eq_of_opcodeOf_eq (hopj.symm.trans (hj ▸ hop)) hround
    exact absurd (this ▸ hj) hv

/-! ## The *_START commands (R181) and MSG_END (R193) -/

/-- The four commands that open a message, with the MODE and the DIR of each (R182, R183, R184, R194). -/
inductive Starts : Instr → Mode → Dir → Prop
  | ecbEnc : Starts .ecbEncStart .ecb .encrypt
  | ecbDec : Starts .ecbDecStart .ecb .decrypt
  | ctrEnc : Starts .ctrEncStart .ctr .encrypt
  | ctrDec : Starts .ctrDecStart .ctr .decrypt

section Commands

variable {s : State} {i : Instr} {m : Mode} {d : Dir}

theorem exists_starts (hi : IsStart i) : ∃ m d, Starts i m d := by
  rcases hi with rfl | rfl | rfl | rfl
  · exact ⟨_, _, .ecbEnc⟩
  · exact ⟨_, _, .ecbDec⟩
  · exact ⟨_, _, .ctrEnc⟩
  · exact ⟨_, _, .ctrDec⟩

theorem exec_starts (hi : Starts i m d) (s : State) : exec i s = .next (startCommand m d s) := by
  cases hi <;> rfl

theorem opcodeOf_ne_round_of_starts (hi : Starts i m d) : opcodeOf i ≠ 0x04#8 := by
  cases hi <;> decide

/-- The checks of a *_START command in the order of R247. -/
theorem firstFailing_startChecks (s : State) :
    firstFailing [.noMessage, .keyLoaded] s =
      if s.status.msgActive then some .state else if !s.status.keyValid then some .noKey else none := rfl

theorem exec_start_accepted (hi : Starts i m d) (herr : s.status.err = none) (hidle : s.status.msgActive = false)
    (hkey : s.status.keyValid = true) : exec i s = .next (startMsg m d s) := by
  rw [exec_starts hi, startCommand, unlessErr_of_none herr,
    guarded_of_pass ((firstFailing_startChecks s).trans (by simp [hidle, hkey]))]

theorem exec_start_refused {e : ErrCode} (hi : Starts i m d) (herr : s.status.err = none)
    (hfail : firstFailing [.noMessage, .keyLoaded] s = some e) : exec i s = .next (raiseErr e s) := by
  rw [exec_starts hi, startCommand, unlessErr_of_none herr, guarded_of_fail hfail]

theorem exec_msgEnd_accepted (herr : s.status.err = none) (hactive : s.status.msgActive = true) :
    exec .msgEnd s = .next (endMsg s) := by
  have hpass : firstFailing [.inMessage] s = none := by simp [firstFailing, Check.fails, hactive]
  rw [exec, execMsgEnd, unlessErr_of_none herr, guarded_of_pass hpass]

theorem exec_msgEnd_refused (herr : s.status.err = none) (hidle : s.status.msgActive = false) :
    exec .msgEnd s = .next (raiseErr .state s) := by
  have hfail : firstFailing [.inMessage] s = some .state := by simp [firstFailing, Check.fails, Check.code, hidle]
  rw [exec, execMsgEnd, unlessErr_of_none herr, guarded_of_fail hfail]

end Commands

/-- Settles O40: each command is its effect behind the two checks, and no other word has its OP. -/
theorem startCommands : Obligations.StartCommands := by
  intro s i w m d hcommand
  obtain ⟨hi, hw⟩ : Starts i m d ∧ w = encode i := by
    rcases hcommand with ⟨rfl, rfl, rfl, rfl⟩ | ⟨rfl, rfl, rfl, rfl⟩ | ⟨rfl, rfl, rfl, rfl⟩ | ⟨rfl, rfl, rfl, rfl⟩
    · exact ⟨.ecbEnc, rfl⟩
    · exact ⟨.ecbDec, rfl⟩
    · exact ⟨.ctrEnc, rfl⟩
    · exact ⟨.ctrDec, rfl⟩
  obtain ⟨hop, -⟩ := Laws.WordShape.of_fields i
  rw [hw, hop]
  refine ⟨decode_encode i, fun v => exists_decode_error_of_op (opcodeOf_ne_round_of_starts hi), fun herr => ?_⟩
  refine ⟨exec_start_accepted hi herr, fun hactive => ?_, fun hidle hkey => ?_⟩
  · exact exec_start_refused hi herr ((firstFailing_startChecks s).trans (by simp [hactive]))
  · exact exec_start_refused hi herr ((firstFailing_startChecks s).trans (by simp [hidle, hkey]))

/-- Settles O43: MSG_END is its effect behind one check, and no other word has its OP. -/
theorem msgEndCommand : Obligations.MsgEndCommand :=
  ⟨decode_encode .msgEnd, fun _ => exists_decode_error_of_op (i := .msgEnd) (by decide),
    fun _ herr => ⟨exec_msgEnd_accepted herr, exec_msgEnd_refused herr⟩⟩

/-- Settles O44: the two effects in a row leave the result registers. -/
theorem emptyMessageProducesNothing : Obligations.EmptyMessageProducesNothing := by
  refine ⟨rfl, fun s i hstart herr hidle hkey => ?_⟩
  obtain ⟨m, d, hi⟩ := exists_starts hstart
  refine ⟨_, _, exec_start_accepted hi herr hidle hkey, exec_msgEnd_accepted (s := startMsg m d s) herr rfl, ?_⟩
  simp [herr]

/-! ## MSG_BLOCK (R185) -/

section MsgBlockEffect

variable (s : State)

@[simp] theorem msgBlockEffect_dout : (msgBlockEffect s).dout = msgOutput s := by simp [msgBlockEffect]
@[simp] theorem msgBlockEffect_doutTag : (msgBlockEffect s).doutTag = s.dinTag := by simp [msgBlockEffect]
@[simp] theorem msgBlockEffect_key : (msgBlockEffect s).key = s.key := by simp [msgBlockEffect]
@[simp] theorem msgBlockEffect_sk : (msgBlockEffect s).sk = s.sk := by simp [msgBlockEffect]
@[simp] theorem msgBlockEffect_runFault : (msgBlockEffect s).runFault = (noteDinRead s).runFault := by
  simp [msgBlockEffect]
@[simp] theorem msgBlockEffect_doutTagUnwritten : (msgBlockEffect s).doutTagUnwritten = false := by
  simp [msgBlockEffect]
@[simp] theorem msgBlockEffect_err : (msgBlockEffect s).status.err = s.status.err := by simp [msgBlockEffect]
@[simp] theorem msgBlockEffect_keyValid : (msgBlockEffect s).status.keyValid = s.status.keyValid := by
  simp [msgBlockEffect]
@[simp] theorem msgBlockEffect_msgActive : (msgBlockEffect s).status.msgActive = s.status.msgActive := by
  simp [msgBlockEffect]
@[simp] theorem msgBlockEffect_mode : (msgBlockEffect s).status.mode = s.status.mode := by simp [msgBlockEffect]
@[simp] theorem msgBlockEffect_dir : (msgBlockEffect s).status.dir = s.status.dir := by simp [msgBlockEffect]
@[simp] theorem msgBlockEffect_doutValid : (msgBlockEffect s).status.doutValid = true := by simp [msgBlockEffect]
@[simp] theorem msgBlockEffect_tailSeen : (msgBlockEffect s).status.tailSeen =
    (s.status.tailSeen || decide (s.dinTag < 8#4)) := by
  simp [msgBlockEffect]

theorem msgBlockEffect_of_ctr {s : State} (hmode : s.status.mode = .ctr) :
    (msgBlockEffect s).ctr = s.ctr + 1#64 ∧
      (msgBlockEffect s).status.ctrExh = (s.status.ctrExh || s.ctr == M64) := by
  simp [msgBlockEffect, msgCounter, hmode]

end MsgBlockEffect

section MsgBlock

variable {s : State}

theorem firstFailing_messageChecks (s : State) :
    firstFailing [.inMessage, .resultRead] s =
      if !s.status.msgActive then some .state else if s.status.doutPending then some .unread else none := rfl

theorem firstFailing_blockChecks (s : State) :
    firstFailing [.tagInRange, .noTailYet, .counterLeft] s =
      if decide (8#4 < s.dinTag) then some .tagRange else if s.status.tailSeen then some .sequence
      else if s.status.mode == .ctr && s.status.ctrExh then some .ctrExhausted else none := rfl

/-- MSG_BLOCK is refused before it reads DIN_TAG. -/
theorem exec_msgBlock_unread {e : ErrCode} (herr : s.status.err = none)
    (hfail : firstFailing [.inMessage, .resultRead] s = some e) : exec .msgBlock s = .next (raiseErr e s) := by
  rw [exec, execMsgBlock, unlessErr_of_none herr, guarded_of_fail hfail]

/-- In a message with no result unread, MSG_BLOCK reads DIN_TAG and goes on to its other checks. -/
theorem exec_msgBlock_tagRead (herr : s.status.err = none) (hactive : s.status.msgActive = true)
    (hread : s.status.doutPending = false) :
    exec .msgBlock s =
      .next (guarded [.tagInRange, .noTailYet, .counterLeft] msgBlockEffect (noteTagRead s)) := by
  rw [exec, execMsgBlock, unlessErr_of_none herr,
    guarded_of_pass ((firstFailing_messageChecks s).trans (by simp [hactive, hread]))]

theorem exec_msgBlock_refused {e : ErrCode} (herr : s.status.err = none) (hactive : s.status.msgActive = true)
    (hread : s.status.doutPending = false)
    (hfail : firstFailing [.tagInRange, .noTailYet, .counterLeft] (noteTagRead s) = some e) :
    exec .msgBlock s = .next (raiseErr e (noteTagRead s)) := by
  rw [exec_msgBlock_tagRead herr hactive hread, guarded_of_fail hfail]

theorem exec_msgBlock_accepted (herr : s.status.err = none) (hactive : s.status.msgActive = true)
    (hread : s.status.doutPending = false) (htag : s.dinTag ≤ 8#4) (htail : s.status.tailSeen = false)
    (hctr : s.status.mode = .ctr → s.status.ctrExh = false) :
    exec .msgBlock s = .next (msgBlockEffect (noteTagRead s)) := by
  rw [exec_msgBlock_tagRead herr hactive hread, guarded_of_pass]
  rw [firstFailing_blockChecks]
  simpa [BitVec.not_lt.2 htag, htail] using hctr

/-- A use of a value the spec fixes marks nothing. -/
theorem noteUnspec_false (u : UnspecUse) (s : State) : noteUnspec u false s = s := by
  simp [noteUnspec]

/-- The two operands are noted as one use: only the first sets the run mark (R44). -/
theorem noteDinRead_noteTagRead (s : State) :
    noteDinRead (noteTagRead s) = noteUnspec .operandUnwritten (s.dinUnwritten || s.dinTagUnwritten) s := by
  cases hdin : s.dinUnwritten <;> cases htag : s.dinTagUnwritten <;> cases hfault : s.runFault <;>
    simp [noteDinRead, noteTagRead, noteUnspec, hdin, htag, hfault]

theorem msgOutput_of_ecb (hmode : s.status.mode = .ecb) :
    msgOutput s = transformBlock s.din (subkeys s) (s.status.dir == .encrypt) := by
  simp only [msgOutput, hmode]

theorem msgOutput_of_ctr (hmode : s.status.mode = .ctr) :
    msgOutput s = s.din ^^^ transformBlock s.ctr (subkeys s) true := by
  simp only [msgOutput, hmode]

/-- The first short block alone sets TAIL_SEEN (R186). -/
theorem putTag_of_noTail (g : Tag) (h : s.status.tailSeen = false) :
    putTag g s = { s with
      doutTag := g, doutTagUnwritten := false, status := { s.status with tailSeen := decide (g < 8#4) } } := by
  simp [putTag, Status.afterTag, h]

/-- Only the counter 2^64 - 1 sets CTR_EXH (R187). -/
theorem advanceCtr_of_left (h : s.status.ctrExh = false) :
    advanceCtr s = { s with
      ctr := s.ctr + 1#64, status := { s.status with ctrExh := decide (s.ctr = 0xFFFFFFFFFFFFFFFF#64) } } := by
  rw [advanceCtr, Status.afterCounter, h]
  rfl

end MsgBlock

/-- Settles O41: MSG_BLOCK is its effect, in each mode with what the mode does to CTR. -/
theorem msgBlockPerformed : Obligations.MsgBlockPerformed := by
  intro s herr hactive hread htag htail
  let noted := noteUnspec .operandUnwritten (s.dinUnwritten || s.dinTagUnwritten) s
  refine ⟨fun hmode => ?_, fun hmode hexh => ?_⟩
  · rw [exec_msgBlock_accepted herr hactive hread htag htail (by simp [hmode]), msgBlockEffect,
      noteDinRead_noteTagRead, msgCounter_of_ecb (s := noted) hmode, putTag_of_noTail (s := noted) _ htail,
      msgOutput_of_ecb (s := noteTagRead s) hmode]
    rfl
  · rw [exec_msgBlock_accepted herr hactive hread htag htail fun _ => hexh, msgBlockEffect,
      noteDinRead_noteTagRead, msgCounter_of_ctr (s := noted) hmode, putTag_of_noTail (s := advanceCtr noted) _ htail,
      advanceCtr_of_left (s := noted) hexh, msgOutput_of_ctr (s := noteTagRead s) hmode]
    rfl

/-- Settles O42: by the first check that fails. -/
theorem msgBlockRefusals : Obligations.MsgBlockRefusals := by
  intro s herr read
  have hfirst := firstFailing_messageChecks s
  have hblock := firstFailing_blockChecks (noteTagRead s)
  refine ⟨fun hidle => ?_, fun hactive hunread => ?_, fun hactive hread htag => ?_, fun hactive hread htag htail => ?_,
    fun hactive hread htag htail hmode hexh => ?_⟩
  · exact exec_msgBlock_unread herr (hfirst.trans (by simp [hidle]))
  · exact exec_msgBlock_unread herr (hfirst.trans (by simp [hactive, hunread]))
  · exact exec_msgBlock_refused herr hactive hread (hblock.trans (by simp [htag]))
  · exact exec_msgBlock_refused herr hactive hread (hblock.trans (by simp [BitVec.not_lt.2 htag, htail]))
  · exact exec_msgBlock_refused herr hactive hread
      (hblock.trans (by simp [BitVec.not_lt.2 htag, htail, hmode, hexh]))

/-! ## The block after a short one, and after the last counter value (R186, R187) -/

section NextBlock

variable {s t : State}

/-- `exec_cases` for a command known to answer `t`. -/
theorem execCases_of_exec {i : Instr} (hexec : exec i s = .next t) : ExecCases s i t := by
  obtain ⟨t', hexec', hc⟩ := exec_cases i s
  exact Host.Outcome.next.inj (hexec.symm.trans hexec') ▸ hc

/-- A MSG_BLOCK that finds ERR 0 and records no error is performed. -/
theorem performed_of_msgBlock (hexec : exec .msgBlock s = .next t) (herr : s.status.err = none)
    (hlog : t.errLog = s.errLog) : Performed s .msgBlock t := by
  rcases execCases_of_exec hexec with ⟨-, hnop | hne⟩ | ⟨hclear, -⟩ | ⟨-, e, rfl | ⟨-, rfl⟩⟩ | ⟨-, hp⟩
  · cases hnop
  · exact absurd herr hne
  · cases hclear
  · simp at hlog
  · simp at hlog
  · exact hp

/-- The host's writes of the operands of a block (R191). -/
def writeOperands (v w : Word) (t : State) : State := storeDinTag w (storeDin v t)

/-- A MSG_BLOCK on written operands marks nothing. -/
theorem noteTagRead_writeOperands (v w : Word) (t : State) :
    noteTagRead (writeOperands v w t) = writeOperands v w t := noteUnspec_false _ _

/-- The result of a block read and the operands of the next written, the next is refused by its last three checks. -/
theorem exec_msgBlock_writeOperands {e : ErrCode} (v w : Word) (herr : t.status.err = none)
    (hactive : t.status.msgActive = true)
    (hfail : firstFailing [.tagInRange, .noTailYet, .counterLeft] (writeOperands v w (setPending false t)) = some e) :
    exec .msgBlock (writeOperands v w (setPending false t)) =
      .next (raiseErr e (writeOperands v w (setPending false t))) := by
  have hnote := noteTagRead_writeOperands v w (setPending false t)
  rw [exec_msgBlock_refused (s := writeOperands v w (setPending false t)) herr hactive rfl (hnote.symm ▸ hfail), hnote]

end NextBlock

/-- Settles O45: a performed block of tag below 8 leaves TAIL_SEEN 1, which the next block's checks find. -/
theorem shortBlockMustBeLast : Obligations.ShortBlockMustBeLast := by
  intro s t v w hexec hactive hlog herr hshort hw
  have hp := performed_of_msgBlock hexec herr hlog
  cases hp with
  | msgBlock =>
    refine ⟨by simp [hshort], exec_msgBlock_writeOperands v w (by simp [herr]) (by simp [hactive]) ?_⟩
    rw [firstFailing_blockChecks]
    simp [writeOperands, hshort, BitVec.not_lt.2 hw]

/-- Settles O46: a performed block at 2^64 - 1 leaves CTR_EXH 1, which the next block's checks find. -/
theorem ctrBlockAfterLastCounterIsRefused : Obligations.CtrBlockAfterLastCounterIsRefused := by
  intro s t v w hexec hactive hlog herr hmode hlast htag hw
  have hp := performed_of_msgBlock hexec herr hlog
  cases hp with
  | msgBlock _ _ _ htail =>
    obtain ⟨hctr, hexh⟩ := msgBlockEffect_of_ctr (s := noteTagRead s) hmode
    replace hctr : (msgBlockEffect (noteTagRead s)).ctr = 0#64 := by rw [hctr, noteTagRead_ctr, hlast]; rfl
    replace hexh : (msgBlockEffect (noteTagRead s)).status.ctrExh = true := by simp [hexh, hlast]
    refine ⟨hctr, hexh, exec_msgBlock_writeOperands v w (by simp [herr]) (by simp [hactive]) ?_⟩
    rw [firstFailing_blockChecks]
    simp [writeOperands, hexh, htag, hmode, htail, BitVec.not_lt.2 hw]

/-! ## Which steps open and end a message (R180, R26) -/

section Lifecycle

variable {s t : State} {i : Instr}

/-- MSG_ACTIVE is as before, or an error was raised and ended the message (R244). -/
def KeptOrAborted (s t : State) : Prop :=
  t.status.msgActive = s.status.msgActive ∨ (t.status.msgActive = false ∧ t.errLog ≠ s.errLog)

theorem keptOrAborted_raiseErr (e : ErrCode) : KeptOrAborted s (raiseErr e s) := .inr (by simp)

theorem keptOrAborted_hostWrite (idx : RegIndex) (v : Word) : KeptOrAborted s (hostWrite idx v s) := by
  rcases hostWrite_cases idx v s with ⟨-, hw | hw | hw⟩ | hw | hw <;> rw [hw]
  · exact .inl rfl
  · exact .inl rfl
  · exact .inl rfl
  · exact keptOrAborted_raiseErr _
  · exact keptOrAborted_raiseErr _

theorem keptOrAborted_readEvent (idx : RegIndex) : KeptOrAborted s (readEvent idx s) := by
  rcases hostRead_cases idx s with hr | hr | ⟨u, c, hr | hr | ⟨b, -, hr | hr⟩⟩ <;> rw [readEvent, hr]
  case inr.inl => exact keptOrAborted_raiseErr (s := s) .access
  all_goals exact .inl rfl

theorem keptOrAborted_waitEvent (polls : Nat) : KeptOrAborted s (waitEvent polls s) := by
  rw [waitEvent_eq]
  split <;> exact .inl rfl

theorem keptOrAborted_illegalWord : KeptOrAborted s (illegalWord s) := by
  rcases illegalWord_cases s with ⟨-, hw⟩ | ⟨-, hw⟩ <;> rw [hw]
  · exact .inl rfl
  · exact keptOrAborted_raiseErr _

/-- A performed command opens a message, or is MSG_END, or leaves MSG_ACTIVE. -/
theorem performed_msgActive (hp : Performed s i t) :
    (IsStart i ∧ t.status.msgActive = true) ∨ (i = .msgEnd ∧ t.status.msgActive = false) ∨
      t.status.msgActive = s.status.msgActive := by
  cases hp with
  | ecbEncStart | ecbDecStart | ctrEncStart | ctrDecStart => exact .inl (by simp [IsStart])
  | msgEnd => exact .inr (.inl ⟨rfl, rfl⟩)
  | msgBlock => exact .inr (.inr (by simp))
  | loadKey | encBlock | decBlock | round => exact .inr (.inr rfl)

/-- What a command does to MSG_ACTIVE. -/
theorem msgActive_execCases (hc : ExecCases s i t) :
    (IsStart i ∧ t.status.msgActive = true) ∨ (i = .msgEnd ∧ t.status.msgActive = false) ∨ KeptOrAborted s t := by
  rcases hc with ⟨rfl, -⟩ | ⟨-, rfl⟩ | ⟨-, e, rfl | ⟨-, rfl⟩⟩ | ⟨-, hp⟩
  · exact .inr (.inr (.inl rfl))
  · exact .inr (.inr (.inl rfl))
  · exact .inr (.inr (keptOrAborted_raiseErr e))
  · exact .inr (.inr (keptOrAborted_raiseErr (s := noteTagRead s) e))
  · exact (performed_msgActive hp).imp_right (.imp_right .inl)

theorem msgActive_coreStep (h : coreStep s = .next t) :
    (∃ i, s.pending = some (encode i) ∧ IsStart i ∧ t.status.msgActive = true) ∨
      (s.pending = some (encode .msgEnd) ∧ t.status.msgActive = false) ∨ KeptOrAborted s t := by
  rcases coreStep_next_cases h with ⟨-, rfl⟩ | ⟨v, hv, ⟨e, -, rfl⟩ | ⟨i, u, hd, -, hc, rfl⟩⟩
  · exact .inr (.inr (.inl rfl))
  · exact .inr (.inr keptOrAborted_illegalWord)
  · obtain rfl := eq_encode_of_decode hd
    rcases msgActive_execCases hc with hstart | ⟨rfl, hend⟩ | hkept
    · exact .inl ⟨i, hv, hstart⟩
    · exact .inr (.inl ⟨hv, hend⟩)
    · exact .inr (.inr hkept)

/-- What a step does to MSG_ACTIVE: RST clears it, a *_START sets it, MSG_END clears it, or it is kept or aborted. -/
theorem msgActive_step (h : step s = .next t) :
    ((∃ es, s.schedule = .rst :: es) ∧ t.status.msgActive = false) ∨
      (∃ i, s.pending = some (encode i) ∧ IsStart i ∧ t.status.msgActive = true) ∨
      (s.pending = some (encode .msgEnd) ∧ t.status.msgActive = false) ∨ KeptOrAborted s t := by
  obtain ⟨es, ⟨idx, v, -, rfl⟩ | ⟨idx, -, rfl⟩ | ⟨hs, rfl⟩ | ⟨polls, -, rfl⟩ | ⟨-, hcore⟩⟩ := step_next_cases h
  · exact .inr (.inr (.inr (keptOrAborted_hostWrite (s := { s with schedule := es }) idx v)))
  · exact .inr (.inr (.inr (keptOrAborted_readEvent (s := { s with schedule := es }) idx)))
  · exact .inl ⟨⟨es, hs⟩, rfl⟩
  · exact .inr (.inr (.inr (keptOrAborted_waitEvent (s := { s with schedule := es }) polls)))
  · exact .inr (msgActive_coreStep (s := { s with schedule := es }) hcore)

end Lifecycle

/-- Settles O52: by what the step does to MSG_ACTIVE. -/
theorem messageLifecycle : Obligations.MessageLifecycle := by
  intro s t h
  rcases msgActive_step h with ⟨hrst, hoff⟩ | ⟨i, hi, hstart, hon⟩ | ⟨hend, hoff⟩ | hsame | ⟨hoff, hlog⟩
  · exact ⟨fun _ hon => by simp [hoff] at hon, fun _ _ => .inr (.inr hrst)⟩
  · exact ⟨fun _ _ => ⟨i, hi, hstart⟩, fun _ hoff => by simp [hon] at hoff⟩
  · exact ⟨fun _ hon => by simp [hoff] at hon, fun _ _ => .inl hend⟩
  · exact ⟨fun hoff hon => by simp [hsame, hoff] at hon, fun hon hoff => by simp [hsame, hon] at hoff⟩
  · exact ⟨fun _ hon => by simp [hoff] at hon, fun _ _ => .inr (.inl hlog)⟩

end Sys2Proof.Machine
end

section
/-! PROOFS. The framing contract of the host (44_modes.md R200 to R205): bytes and blocks in the same order (R55, R56),
a byte sequence as its whole 8-byte chunks and a short rest, and the checks of `unframe` (R203, R204). -/

namespace Sys2Proof.Machine

/-! ## Eight bytes as a block (R55, R56) -/

/-- Packing keeps eight bytes, a missing one as zero. -/
theorem unpackBytes_packBytes (bs : List Byte) :
    unpackBytes (packBytes bs) = (List.range 8).map fun j => bs.getD j 0#8 := by
  -- `Nat.reduceAdd` is off: the append lemmas match the width of an append as a sum, not as a numeral.
  simp only [unpackBytes, packBytes, BitVec.extractLsb'_cast, BitVec.extractLsb'_append_eq_of_le,
    BitVec.extractLsb'_append_eq_right, BitVec.extractLsb'_eq_self, Nat.reduceLeDiff, Nat.reduceSub,
    Nat.le_refl, -Nat.reduceAdd]
  rfl

/-- A block's bytes: the bytes packed, then the zero padding (R200). -/
theorem unpackBytes_packBytes_of_le {bs : List Byte} (h : bs.length ≤ 8) :
    unpackBytes (packBytes bs) = bs ++ List.replicate (8 - bs.length) 0#8 := by
  rw [unpackBytes_packBytes]
  apply List.ext_getElem
  · simp only [List.length_map, List.length_range, List.length_append, List.length_replicate]
    omega
  · intro j hj _
    by_cases hlt : j < bs.length
    · simp [hlt]
    · simp [List.getElem_append_right (Nat.le_of_not_lt hlt), List.getElem?_eq_none (Nat.le_of_not_lt hlt)]

/-- Whole 8-byte chunks come back without padding. -/
theorem unpackBytes_packBytes_chunk {c : List Byte} (hc : c.length = 8) : unpackBytes (packBytes c) = c := by
  simp [unpackBytes_packBytes_of_le hc.le, hc]

/-- The bytes of a short block come back by their number. -/
theorem take_unpackBytes_packBytes {bs : List Byte} (h : bs.length ≤ 8) :
    (unpackBytes (packBytes bs)).take bs.length = bs := by
  rw [unpackBytes_packBytes_of_le h, List.take_left]

/-- A block with its count written into bits [7:0] (R204 (b)). -/
def withLowByte (w : Word) (c : Byte) : Word := (w.extractLsb' 8 56 ++ c).cast rfl

theorem lowByte_withLowByte (w : Word) (c : Byte) : (withLowByte w c).extractLsb' 0 8 = c :=
  BitVec.extractLsb'_append_eq_right

/-- The count takes the place of the eighth byte only. -/
theorem take_unpackBytes_withLowByte (w : Word) (c : Byte) {n : Nat} (hn : n ≤ 7) :
    (unpackBytes (withLowByte w c)).take n = (unpackBytes w).take n := by
  have hbyte : ∀ k, 8 ≤ k → k ≤ 56 → (withLowByte w c).extractLsb' k 8 = w.extractLsb' k 8 := by
    intro k h8 h56
    rw [withLowByte, BitVec.extractLsb'_cast, BitVec.extractLsb'_append_eq_of_le h8]
    apply BitVec.eq_of_getLsbD_eq
    intro j hj
    have hlow : k - 8 + j < 56 ∧ 8 + (k - 8 + j) = k + j := by omega
    simp [hlow, hj]
  have hseven : (unpackBytes (withLowByte w c)).take 7 = (unpackBytes w).take 7 := by
    simp [unpackBytes, hbyte]
  have := congrArg (List.take n) hseven
  rwa [List.take_take, List.take_take, Nat.min_eq_left hn] at this

/-! ## A byte sequence as chunks of eight and a short rest (R200) -/

theorem frame_of_short {bs : List Byte} (h : bs.length < 8) :
    frame bs = [(packBytes bs, BitVec.ofNat 4 bs.length)] := by
  rw [frame]
  rintro b0 b1 b2 b3 b4 b5 b6 b7 rest rfl
  simp only [List.length_cons] at h
  omega

theorem frame_of_chunk {c : List Byte} (rest : List Byte) (hc : c.length = 8) :
    frame (c ++ rest) = (packBytes c, 8#4) :: frame rest := by
  match c, hc with
  | [_, _, _, _, _, _, _, _], _ => rfl

/-- A property of every short sequence that one more chunk in front keeps holds of every sequence. -/
theorem induction_by_chunks {P : List Byte → Prop} (short : ∀ bs, bs.length < 8 → P bs)
    (chunk : ∀ c rest, c.length = 8 → P rest → P (c ++ rest)) (bs : List Byte) : P bs := by
  by_cases h : bs.length < 8
  · exact short bs h
  · rw [← List.take_append_drop 8 bs]
    exact chunk _ _ (List.length_take_of_le (Nat.le_of_not_lt h)) (induction_by_chunks short chunk (bs.drop 8))
termination_by bs.length
decreasing_by simp only [List.length_drop]; omega

theorem frame_ne_nil (bs : List Byte) : frame bs ≠ [] := by
  cases bs using induction_by_chunks with
  | short bs h => simp [frame_of_short h]
  | chunk c rest hc => simp [frame_of_chunk rest hc]

/-- The tag of a short rest is its length (R200). -/
theorem toNat_tag_of_short {n : Nat} (h : n < 8) : (BitVec.ofNat 4 n).toNat = n := by
  rw [BitVec.toNat_ofNat, Nat.mod_eq_of_lt (by omega)]

/-- Settles O59: by chunks; each adds one block, eight bytes and no padding. -/
theorem framedMessageShape : Obligations.FramedMessageShape := by
  intro bs
  induction bs using induction_by_chunks with
  | short bs h =>
    have hpad : 8 * (bs.length / 8 + 1) - bs.length = 8 - bs.length := by omega
    rw [frame_of_short h, hpad, Nat.mod_eq_of_lt h, Nat.div_eq_of_lt h]
    refine ⟨rfl, congrArg some (toNat_tag_of_short h), ?_⟩
    simpa [artifact] using unpackBytes_packBytes_of_le (Nat.le_of_lt h)
  | chunk c rest hc ih =>
    obtain ⟨hlen, hlast, hbytes⟩ := ih
    have hdiv : (8 + rest.length) / 8 = rest.length / 8 + 1 := by omega
    have hpad : 8 * (rest.length / 8 + 1 + 1) - (8 + rest.length) = 8 * (rest.length / 8 + 1) - rest.length := by omega
    rw [frame_of_chunk rest hc, List.length_append, hc, hdiv, hpad]
    refine ⟨by rw [List.length_cons, hlen], ?_, ?_⟩
    · rw [List.getLast?_cons_of_ne_nil (frame_ne_nil rest), hlast, Nat.add_mod_left]
    · rw [artifact, List.flatMap_cons, ← artifact, hbytes, unpackBytes_packBytes_chunk hc, List.append_assoc]

/-! ## The blocks of a message, one before the others -/

section Blocks

variable {blocks : List (Word × Tag)}

theorem framedMessage_cons (w : Word) (t : Tag) (h : blocks ≠ []) :
    framedMessage ((w, t) :: blocks) = (t == 8#4 && framedMessage blocks) := by
  cases blocks with
  | nil => exact absurd rfl h
  | cons b blocks => rfl

theorem unframe_cons (w : Word) {t : Tag} (h : blocks ≠ []) (ht : t ≤ 8#4) :
    unframe ((w, t) :: blocks) = (unframe blocks).map (unpackBytes w ++ ·) := by
  cases blocks with
  | nil => exact absurd rfl h
  | cons b blocks =>
    rw [unframe, if_pos ht]
    · cases unframe (b :: blocks) <;> rfl
    · exact h

theorem embedCount_cons (w : Word) (t : Tag) (h : blocks ≠ []) :
    embedCount ((w, t) :: blocks) = (w, 8#4) :: embedCount blocks := by
  cases blocks with
  | nil => exact absurd rfl h
  | cons b blocks => rfl

theorem embedCount_ne_nil (h : blocks ≠ []) : embedCount blocks ≠ [] := by
  match blocks with
  | [] => exact absurd rfl h
  | [_] => simp [embedCount]
  | _ :: _ :: _ => simp [embedCount]

theorem unframeEmbedded_cons (w : Word) (t : Tag) (h : blocks ≠ []) :
    unframeEmbedded ((w, t) :: blocks) = (unframeEmbedded blocks).map (unpackBytes w ++ ·) := by
  cases blocks with
  | nil => exact absurd rfl h
  | cons b blocks =>
    rw [unframeEmbedded]
    · cases unframeEmbedded (b :: blocks) <;> rfl
    · exact h

end Blocks

/-! ## Framing and unframing (R202) -/

theorem unframe_frame (bs : List Byte) : unframe (frame bs) = .ok bs := by
  induction bs using induction_by_chunks with
  | short bs h =>
    have htag : BitVec.ofNat 4 bs.length ≤ 8#4 := by
      rw [BitVec.le_def, toNat_tag_of_short h]
      exact Nat.le_of_lt h
    rw [frame_of_short h, unframe, if_pos htag, toNat_tag_of_short h,
      take_unpackBytes_packBytes (Nat.le_of_lt h)]
  | chunk c rest hc ih =>
    rw [frame_of_chunk rest hc, unframe_cons _ (frame_ne_nil rest) (BitVec.le_refl _), ih,
      unpackBytes_packBytes_chunk hc]
    rfl

theorem framedMessage_frame (bs : List Byte) : framedMessage (frame bs) = true := by
  induction bs using induction_by_chunks with
  | short bs h =>
    rw [frame_of_short h, framedMessage, decide_eq_true_iff, BitVec.le_def, toNat_tag_of_short h]
    exact Nat.le_of_lt h
  | chunk c rest hc ih =>
    rw [frame_of_chunk rest hc, framedMessage_cons _ _ (frame_ne_nil rest), ih]
    rfl

/-- The last block of `embedCount` is the block with its tag as the low byte (R204 (b)). -/
theorem embedCount_singleton (w : Word) (t : Tag) : embedCount [(w, t)] = [(withLowByte w (t.setWidth 8), 8#4)] := rfl

theorem unframeEmbedded_embedCount_frame (bs : List Byte) : unframeEmbedded (embedCount (frame bs)) = .ok bs := by
  induction bs using induction_by_chunks with
  | short bs h =>
    have hcount : ((BitVec.ofNat 4 bs.length).setWidth 8).toNat = bs.length := by
      rw [BitVec.toNat_setWidth_of_le (by decide), toNat_tag_of_short h]
    have hle : (BitVec.ofNat 4 bs.length).setWidth 8 ≤ 7#8 := by
      rw [BitVec.le_def, hcount]
      exact Nat.le_of_lt_succ h
    rw [frame_of_short h, embedCount_singleton, unframeEmbedded, lowByte_withLowByte, if_pos hle, hcount,
      take_unpackBytes_withLowByte _ _ (Nat.le_of_lt_succ h), take_unpackBytes_packBytes (Nat.le_of_lt h)]
  | chunk c rest hc ih =>
    rw [frame_of_chunk rest hc, embedCount_cons _ _ (frame_ne_nil rest),
      unframeEmbedded_cons _ _ (embedCount_ne_nil (frame_ne_nil rest)), ih, unpackBytes_packBytes_chunk hc]
    rfl

/-- With the count embedded every DIN_TAG is 8 (R204 (b)). -/
theorem tag_of_mem_embedCount {blocks : List (Word × Tag)} : ∀ b ∈ embedCount blocks, b.2 = 8#4 := by
  induction blocks with
  | nil => simp [embedCount]
  | cons b blocks ih =>
    cases blocks with
    | nil => simp [embedCount]
    | cons c blocks => simpa [embedCount_cons b.1 b.2 (List.cons_ne_nil c blocks)] using ih

/-- A message of whole blocks is framed (R202). -/
theorem framedMessage_of_tags {blocks : List (Word × Tag)} (h : ∀ b ∈ blocks, b.2 = 8#4) :
    framedMessage blocks = true := by
  induction blocks with
  | nil => rfl
  | cons b blocks ih =>
    obtain ⟨hb, hrest⟩ := List.forall_mem_cons.1 h
    by_cases hnil : blocks = []
    · simp [hnil, framedMessage, hb]
    · rw [framedMessage_cons b.1 b.2 hnil, hb, ih hrest]
      rfl

/-- Settles O58: by chunks, with the count in the tags and in the last block's low byte. -/
theorem framingRoundTrip : Obligations.FramingRoundTrip := by
  intro repr bs
  cases repr with
  | sideband => exact ⟨unframe_frame bs, framedMessage_frame bs, fun h => by cases h⟩
  | embeddedLowByte =>
    exact ⟨unframeEmbedded_embedCount_frame bs, framedMessage_of_tags tag_of_mem_embedCount,
      fun _ => tag_of_mem_embedCount⟩

/-! ## Real sizes out of range (R203, R204) -/

theorem unframe_of_outOfRange {blocks : List (Word × Tag)} (h : ∃ b ∈ blocks, 8#4 < b.2) :
    unframe blocks = .error .framingTag := by
  induction blocks with
  | nil => simp at h
  | cons b blocks ih =>
    by_cases ht : b.2 ≤ 8#4
    · have hrest : ∃ c ∈ blocks, 8#4 < c.2 := by
        obtain ⟨c, hc, hout⟩ := h
        rcases List.mem_cons.1 hc with rfl | hc
        · exact absurd hout (BitVec.not_lt.2 ht)
        · exact ⟨c, hc, hout⟩
      have hne : blocks ≠ [] := by
        rintro rfl
        simp at hrest
      rw [unframe_cons b.1 hne ht, ih hrest]
      rfl
    · match blocks with
      | [] => exact if_neg ht
      | _ :: _ => exact if_neg ht

theorem unframeEmbedded_of_outOfRange (blocks : List (Word × Tag)) {w : Word} (t : Tag)
    (h : 7#8 < w.extractLsb' 0 8) : unframeEmbedded (blocks ++ [(w, t)]) = .error .framingCount := by
  induction blocks with
  | nil => exact if_neg (BitVec.not_le.2 h)
  | cons b blocks ih =>
    rw [List.cons_append, unframeEmbedded_cons b.1 b.2 (by simp), ih]
    rfl

/-- A MSG_BLOCK that gives out a tag gives out DIN_TAG, which its checks bound by 8 (R189). -/
theorem doutTag_le_of_msgBlock {s t : State} (hexec : exec .msgBlock s = .next t) (hne : t.doutTag ≠ s.doutTag) :
    t.doutTag ≤ 8#4 := by
  rcases commandRegs_of_execCases (execCases_of_exec hexec) with hregs | hp
  · exact absurd (congrArg CommandRegs.doutTag hregs) hne
  · cases hp with
    | msgBlock _ _ htag => simpa using htag

/-- Settles O60: the first tag out of range, the last block's count, and the checks of MSG_BLOCK. -/
theorem outOfRangeRealSizeFailsFast : Obligations.OutOfRangeRealSizeFailsFast :=
  ⟨fun _ => unframe_of_outOfRange, fun blocks _ t => unframeEmbedded_of_outOfRange blocks t,
    fun _ _ => doutTag_le_of_msgBlock⟩

end Sys2Proof.Machine
end

section
/-! PROOFS. Whole messages as the host performs them (44_modes.md R191, R192, R197): one rule per line of the protocol,
the state between two blocks, and the induction over the blocks. -/

namespace Sys2Proof.Machine

/-! ## Runs and accesses -/

theorem nextEvents_add {s t : State} {a : Nat} (b : Nat) (h : nextEvents a s = .next t) :
    nextEvents (a + b) s = nextEvents b t := by
  induction a generalizing s with
  | zero =>
    obtain rfl : s = t := Host.Outcome.next.inj h
    rw [Nat.zero_add]
  | succ a ih =>
    cases hstep : step s with
    | next u =>
      rw [nextEvents_succ a hstep] at h
      rw [Nat.succ_add, nextEvents_succ (a + b) hstep]
      exact ih h
    | fault | refused =>
      rw [nextEvents, show nextEvent s = _ from hstep] at h
      cases h

/-- A state by the events to come and the rest. -/
theorem eq_withRecords {s : State} {es : List Event} (hs : s.schedule = es) : s = withRecords es s.reads s := by
  subst hs
  rfl

theorem subkeys_withRecords (es : List Event) (rs : List (RegIndex × Word)) (s : State) :
    subkeys (withRecords es rs s) = subkeys s := rfl

section Accesses

variable {s : State} (es : List Event) (rs : List (RegIndex × Word))

/-- The host's write of DIN while BUSY = 0 (R222). -/
theorem step_write_din (v : Word) (hbusy : s.status.busy = false) :
    step (withRecords (.write (indexOfReg .din) v :: es) rs s) = .next (withRecords es rs (storeDin v s)) := by
  rw [step_of_event rfl, applyEvent, hostWrite, regOfIndex_indexOfReg]
  simp [unlessBusy, withRecords, hbusy, storeDin]

/-- The host's write of DIN_TAG while BUSY = 0 (R222). -/
theorem step_write_dinTag (v : Word) (hbusy : s.status.busy = false) :
    step (withRecords (.write (indexOfReg .dinTag) v :: es) rs s) = .next (withRecords es rs (storeDinTag v s)) := by
  rw [step_of_event rfl, applyEvent, hostWrite, regOfIndex_indexOfReg]
  simp [unlessBusy, withRecords, hbusy, storeDinTag]

/-- The read of a result (R223, R59): DOUT_PENDING <- 0, and a result that is there marks nothing. -/
theorem step_read_dout (hbusy : s.status.busy = false) (hvalid : s.status.doutValid = true) :
    step (withRecords (.read (indexOfReg .dout) :: es) rs s) =
      .next (withRecords es (rs ++ [(indexOfReg .dout, s.dout)]) (setPending false s)) := by
  rw [step_of_event rfl, applyEvent, readEvent, hostRead, regOfIndex_indexOfReg]
  simp [readDout, readResult, withRecords, hbusy, hvalid, noteUnspec_false, logRead, setPending]

/-- The read of a written DOUT_TAG (R223). -/
theorem step_read_doutTag (hbusy : s.status.busy = false) (hwritten : s.doutTagUnwritten = false) :
    step (withRecords (.read (indexOfReg .doutTag) :: es) rs s) =
      .next (withRecords es (rs ++ [(indexOfReg .doutTag, s.doutTag.setWidth 64)]) s) := by
  rw [step_of_event rfl, applyEvent, readEvent, hostRead, regOfIndex_indexOfReg]
  simp [readResult, withRecords, hbusy, hwritten, noteUnspec_false, logRead]

/-- The host's writes of a block's operands. -/
theorem nextEvents_writeOperands (n : Nat) (v w : Word) (hbusy : s.status.busy = false) :
    nextEvents (n + 2) (withRecords (.write (indexOfReg .din) v :: .write (indexOfReg .dinTag) w :: es) rs s) =
      nextEvents n (withRecords es rs (writeOperands v w s)) := by
  rw [nextEvents_succ (n + 1) (step_write_din _ rs v hbusy),
    nextEvents_succ n (step_write_dinTag (s := storeDin v s) es rs w hbusy), writeOperands]

/-- The host's reads of a block's result and its tag. -/
theorem nextEvents_readOutput (hbusy : s.status.busy = false) (hvalid : s.status.doutValid = true)
    (hwritten : s.doutTagUnwritten = false) :
    nextEvents 2 (withRecords (.read (indexOfReg .dout) :: .read (indexOfReg .doutTag) :: es) rs s) =
      .next (withRecords es (rs ++ [(indexOfReg .dout, s.dout)] ++ [(indexOfReg .doutTag, s.doutTag.setWidth 64)])
        (setPending false s)) := by
  rw [nextEvents_succ 1 (step_read_dout _ rs hbusy hvalid),
    nextEvents_succ 0 (step_read_doutTag (s := setPending false s) es _ hbusy hwritten), nextEvents, setPending_doutTag]

end Accesses

/-! ## The values read from one register -/

theorem readsOf_append (r : Reg) (xs ys : List (RegIndex × Word)) :
    readsOf r (xs ++ ys) = readsOf r xs ++ readsOf r ys := List.filterMap_append

@[simp] theorem readsOf_singleton (r : Reg) (w : Word) : readsOf r [(indexOfReg r, w)] = [w] := by
  simp [readsOf]

theorem readsOf_singleton_of_ne {r r' : Reg} (hr : indexOfReg r' ≠ indexOfReg r) (w : Word) :
    readsOf r [(indexOfReg r', w)] = [] := by
  simp [readsOf, hr]

/-- The reads of a WAIT are of STATUS. -/
theorem readsOf_polls {r : Reg} (hr : indexOfReg .status ≠ indexOfReg r) (rs : List (RegIndex × Word)) (p : Nat)
    (w w' : Word) : readsOf r (rs ++ List.replicate p (0x01#8, w) ++ [(0x01#8, w')]) = readsOf r rs := by
  have hidx : (0x01#8 : RegIndex) ≠ indexOfReg r := hr
  simp [readsOf, List.filterMap_append, hidx]

/-! ## The state of the core and the host outside a block -/

/-- No error, no result unread, no command pending: where the host may begin the next line of the protocol. -/
structure State.Quiet (s : State) : Prop where
  err : s.status.err = none
  read : s.status.doutPending = false
  idle : s.status.busy = false
  latch : s.pending = none

/-- The key is that of `s`, and the run is marked only if it was in `s`. -/
structure KeyAndMarkKept (s t : State) : Prop where
  key : t.key = s.key
  sk : t.sk = s.sk
  keyValid : t.status.keyValid = s.status.keyValid
  fault : t.runFault = s.runFault

/-- The block that comes out for block `b`, the `n`-th of its message (R187, R188). -/
def blockOutput (sks : Vector Subkey 16) (m : Mode) (d : Dir) (n : Nat) (b : Word × Tag) : Word :=
  match m with
  | .ecb => transformBlock b.1 sks (d == .encrypt)
  | .ctr => b.1 ^^^ transformBlock (BitVec.ofNat 64 n) sks true

/-- What the host has read of a message once the blocks `done` have been fed. -/
structure HasRead (sks : Vector Subkey 16) (m : Mode) (d : Dir) (done : List (Word × Tag)) (t : State) : Prop where
  outputs : readsOf .dout t.reads = done.mapIdx (blockOutput sks m d)
  tags : readsOf .doutTag t.reads = done.map fun b => b.2.setWidth 64

/-- A message opened in `s` with this MODE and DIR, after the blocks `done`. -/
structure InMessage (s : State) (m : Mode) (d : Dir) (done : List (Word × Tag)) (t : State) : Prop where
  quiet : t.Quiet
  kept : KeyAndMarkKept s t
  hasRead : HasRead (subkeys s) m d done t
  active : t.status.msgActive = true
  mode : t.status.mode = m
  dir : t.status.dir = d
  tail : t.status.tailSeen = done.any fun b => decide (b.2 < 8#4)
  ctr : m = .ctr → t.ctr = BitVec.ofNat 64 done.length
  left : m = .ctr → done.length < 2 ^ 64 → t.status.ctrExh = false

/-- The message performed and ended. -/
structure MessageEnded (s : State) (m : Mode) (d : Dir) (blocks : List (Word × Tag)) (t : State) : Prop where
  quiet : t.Quiet
  kept : KeyAndMarkKept s t
  hasRead : HasRead (subkeys s) m d blocks t
  idle : t.status.msgActive = false
  ctr : m = .ctr → t.ctr = BitVec.ofNat 64 blocks.length

/-! ## The lines of the protocol -/

section Lines

variable {s t : State} {m : Mode} {d : Dir} {done : List (Word × Tag)}

/-- `DO *_START` (R181) from a quiet core with a key opens a message with nothing read yet. -/
theorem nextEvents_start {i : Instr} {p : Nat} {es : List Event} (hi : Starts i m d)
    (hs : s.schedule = doEvents i p ++ es) (hquiet : s.Quiet) (hkey : s.status.keyValid = true)
    (hidle : s.status.msgActive = false) (hreads : s.reads = []) :
    ∃ t, nextEvents (p + 3) s = .next t ∧ t.schedule = es ∧ InMessage s m d [] t := by
  have hexec := exec_start_accepted (s := latch (encode i) s) hi hquiet.err hidle hkey
  have hrun := nextEvents_do p es hquiet.idle hexec
  rw [← hs] at hrun
  have hnone : ∀ r, readsOf r s.reads = [] := fun r => by rw [hreads]; rfl
  refine ⟨_, hrun, rfl, ⟨hquiet.err, hquiet.read, rfl, rfl⟩, ⟨rfl, rfl, rfl, rfl⟩, ⟨?_, ?_⟩, rfl, rfl, rfl, rfl,
    fun _ => rfl, fun _ _ => rfl⟩
  · exact (readsOf_polls (by decide) _ _ _ _).trans (hnone .dout)
  · exact (readsOf_polls (by decide) _ _ _ _).trans (hnone .doutTag)

/-- `DO MSG_END` (R193) ends the message. -/
theorem nextEvents_end {p : Nat} (hs : t.schedule = doEvents .msgEnd p) (hin : InMessage s m d done t) :
    ∃ u, nextEvents (p + 3) t = .next u ∧ u.schedule = [] ∧ MessageEnded s m d done u := by
  obtain ⟨hquiet, ⟨hkey, hsk, hvalid, hfault⟩, hread, hactive, -, -, -, hctr, -⟩ := hin
  have hexec := exec_msgEnd_accepted (s := latch (encode .msgEnd) t) hquiet.err hactive
  have hrun := nextEvents_do p [] hquiet.idle hexec
  rw [List.append_nil, ← hs] at hrun
  refine ⟨_, hrun, rfl, ⟨hquiet.err, hquiet.read, rfl, rfl⟩, ⟨hkey, hsk, hvalid, hfault⟩, ⟨?_, ?_⟩, rfl, hctr⟩
  · exact (readsOf_polls (by decide) _ _ _ _).trans hread.outputs
  · exact (readsOf_polls (by decide) _ _ _ _).trans hread.tags

/-- The core with the operands of a block written and MSG_BLOCK latched. -/
def fedBlock (b : Word × Tag) (t : State) : State :=
  latch (encode .msgBlock) (writeOperands b.1 (b.2.setWidth 64) t)

/-- The core after the block, its result read. -/
def afterFeed (b : Word × Tag) (t : State) : State := setPending false (freeLatch (msgBlockEffect (fedBlock b t)))

@[simp] theorem dinTag_fedBlock (b : Word × Tag) (t : State) : (fedBlock b t).dinTag = b.2 := by
  simp only [fedBlock, latch_dinTag, writeOperands, storeDinTag_dinTag]
  apply BitVec.eq_of_getLsbD_eq
  intro j hj
  have hword : j < 64 := by omega
  simp [hj, hword]

/-- `FEED` (R81) of a block that MSG_BLOCK accepts: the result and its tag are what the host reads. -/
theorem nextEvents_feed {b : Word × Tag} {p : Nat} {es : List Event}
    (hs : t.schedule = feedEvents b.1 (b.2.setWidth 64) p ++ es) (hbusy : t.status.busy = false)
    (hexec : exec .msgBlock (fedBlock b t) = .next (msgBlockEffect (fedBlock b t))) :
    ∃ rs, nextEvents (p + 7) t = .next (withRecords es rs (afterFeed b t)) ∧
      readsOf .dout rs = readsOf .dout t.reads ++ [msgOutput (fedBlock b t)] ∧
      readsOf .doutTag rs = readsOf .doutTag t.reads ++ [b.2.setWidth 64] := by
  let u := freeLatch (msgBlockEffect (fedBlock b t))
  let polled := t.reads ++ List.replicate p (0x01#8, (fedBlock b t).status.word) ++ [(0x01#8, u.status.word)]
  let readOut := .read (indexOfReg .dout) :: .read (indexOfReg .doutTag) :: es
  refine ⟨polled ++ [(indexOfReg .dout, u.dout)] ++ [(indexOfReg .doutTag, u.doutTag.setWidth 64)], ?_, ?_, ?_⟩
  · have hlines : t.schedule = .write (indexOfReg .din) b.1 :: .write (indexOfReg .dinTag) (b.2.setWidth 64) ::
        (doEvents .msgBlock p ++ readOut) := by
      simpa [feedEvents] using hs
    have hdo := nextEvents_do p readOut (s := writeOperands b.1 (b.2.setWidth 64) t) hbusy hexec
    calc
      _ = nextEvents (p + 5 + 2) (withRecords _ t.reads t) := congrArg _ (eq_withRecords hlines)
      _ = nextEvents (p + 3 + 2) (withRecords _ t.reads (writeOperands b.1 (b.2.setWidth 64) t)) :=
        nextEvents_writeOperands _ _ _ _ _ hbusy
      _ = nextEvents 2 (withRecords readOut polled u) := nextEvents_add 2 hdo
      _ = _ := nextEvents_readOutput es polled rfl (by simp [u]) (by simp [u])
  · rw [readsOf_append, readsOf_append, readsOf_polls (by decide), readsOf_singleton,
      readsOf_singleton_of_ne (by decide), List.append_nil]
    simp [u]
  · rw [readsOf_append, readsOf_append, readsOf_polls (by decide), readsOf_singleton,
      readsOf_singleton_of_ne (by decide), List.append_nil]
    simp [u]

/-- What MSG_BLOCK computes from the written operands is the output of the block at its place (R187, R188). -/
theorem msgOutput_fedBlock {n : Nat} (b : Word × Tag) (hctr : t.status.mode = .ctr → t.ctr = BitVec.ofNat 64 n) :
    msgOutput (fedBlock b t) = blockOutput (subkeys t) t.status.mode t.status.dir n b := by
  cases hmode : t.status.mode with
  | ecb => exact msgOutput_of_ecb (s := fedBlock b t) hmode
  | ctr => exact (msgOutput_of_ctr (s := fedBlock b t) hmode).trans (by rw [blockOutput, ← hctr hmode]; rfl)

/-- The counter after `n` blocks is the last one only after 2^64 - 1 of them. -/
theorem ofNat_ne_M64 {n : Nat} (hn : n + 1 < 2 ^ 64) : BitVec.ofNat 64 n ≠ M64 := by
  rw [M64, ← BitVec.toNat_inj.ne, BitVec.toNat_ofNat, BitVec.toNat_ofNat]
  omega

/-- A block of the message is accepted: no short block came before it, and a counter value is left (R185). -/
theorem exec_msgBlock_fedBlock {b : Word × Tag} (hin : InMessage s m d done t) (htags : ∀ x ∈ done, x.2 = 8#4)
    (htag : b.2 ≤ 8#4) (hleft : m = .ctr → done.length < 2 ^ 64) :
    exec .msgBlock (fedBlock b t) = .next (msgBlockEffect (fedBlock b t)) := by
  have htail : t.status.tailSeen = false := by
    rw [hin.tail, List.any_eq_false]
    intro x hx
    simp [htags x hx]
  have hnote : noteTagRead (fedBlock b t) = fedBlock b t := noteUnspec_false _ _
  have haccepted := exec_msgBlock_accepted (s := fedBlock b t) hin.quiet.err hin.active hin.quiet.read
    (by rwa [dinTag_fedBlock]) htail fun hmode =>
      hin.left (hin.mode.symm.trans hmode) (hleft (hin.mode.symm.trans hmode))
  rwa [hnote] at haccepted

/-- What a block leaves outside the sequencer. -/
theorem afterFeed_frame (b : Word × Tag) (hquiet : t.Quiet) :
    (afterFeed b t).Quiet ∧ KeyAndMarkKept t (afterFeed b t) := by
  constructor
  · exact ⟨by simp [afterFeed, fedBlock, writeOperands, hquiet.err], rfl, rfl, rfl⟩
  · constructor <;> simp [afterFeed, fedBlock, writeOperands]

/-- What a block leaves in the sequencer but the counter. -/
theorem afterFeed_sequencer (b : Word × Tag) (t : State) :
    (afterFeed b t).status.msgActive = t.status.msgActive ∧ (afterFeed b t).status.mode = t.status.mode ∧
      (afterFeed b t).status.dir = t.status.dir ∧
      (afterFeed b t).status.tailSeen = (t.status.tailSeen || decide (b.2 < 8#4)) := by
  refine ⟨msgBlockEffect_msgActive (fedBlock b t), msgBlockEffect_mode (fedBlock b t),
    msgBlockEffect_dir (fedBlock b t), ?_⟩
  rw [← dinTag_fedBlock b t]
  exact msgBlockEffect_tailSeen (fedBlock b t)

theorem afterFeed_counter (b : Word × Tag) (hmode : t.status.mode = .ctr) :
    (afterFeed b t).ctr = t.ctr + 1#64 ∧ (afterFeed b t).status.ctrExh = (t.status.ctrExh || t.ctr == M64) :=
  msgBlockEffect_of_ctr (s := fedBlock b t) hmode

theorem keyAndMarkKept_trans {u : State} (h : KeyAndMarkKept s t) (h' : KeyAndMarkKept t u) : KeyAndMarkKept s u :=
  ⟨h'.key.trans h.key, h'.sk.trans h.sk, h'.keyValid.trans h.keyValid, h'.fault.trans h.fault⟩

theorem subkeys_of_kept (h : KeyAndMarkKept s t) : subkeys t = subkeys s := by
  rw [subkeys, h.sk, subkeys]

/-- `FEED` of the next block of a message. -/
theorem nextEvents_nextBlock {b : Word × Tag} {p : Nat} {es : List Event} (hin : InMessage s m d done t)
    (hs : t.schedule = feedEvents b.1 (b.2.setWidth 64) p ++ es) (htags : ∀ x ∈ done, x.2 = 8#4) (htag : b.2 ≤ 8#4)
    (hleft : m = .ctr → done.length < 2 ^ 64) :
    ∃ u, nextEvents (p + 7) t = .next u ∧ u.schedule = es ∧ InMessage s m d (done ++ [b]) u := by
  obtain ⟨rs, hrun, hdout, hdoutTag⟩ := nextEvents_feed hs hin.quiet.idle (exec_msgBlock_fedBlock hin htags htag hleft)
  have hout := msgOutput_fedBlock (n := done.length) b fun hmode => hin.ctr (hin.mode.symm.trans hmode)
  rw [hin.mode, hin.dir, subkeys_of_kept hin.kept] at hout
  obtain ⟨⟨herr, hread, hidle, hlatch⟩, hkept⟩ := afterFeed_frame b hin.quiet
  obtain ⟨hkey, hsk, hvalid, hfault⟩ := keyAndMarkKept_trans hin.kept hkept
  obtain ⟨hactive, hmode, hdir, htail⟩ := afterFeed_sequencer b t
  refine ⟨_, hrun, rfl, ⟨herr, hread, hidle, hlatch⟩, ⟨hkey, hsk, hvalid, hfault⟩, ⟨?_, ?_⟩, hactive.trans hin.active,
    hmode.trans hin.mode, hdir.trans hin.dir, ?_, fun hm => ?_, fun hm hlen => ?_⟩
  · rw [List.mapIdx_append, ← hin.hasRead.outputs]
    exact hdout.trans (by simp [hout])
  · rw [List.map_append, ← hin.hasRead.tags]
    exact hdoutTag
  · rw [List.any_append, ← hin.tail]
    exact htail.trans (by simp)
  · obtain ⟨hctr, -⟩ := afterFeed_counter b (hin.mode.trans hm)
    rw [List.length_append, List.length_singleton, BitVec.ofNat_add, ← hin.ctr hm]
    exact hctr
  · rw [List.length_append, List.length_singleton] at hlen
    obtain ⟨-, hexh⟩ := afterFeed_counter b (hin.mode.trans hm)
    refine hexh.trans ?_
    simp [hin.ctr hm, hin.left hm (by omega), ofNat_ne_M64 hlen]

end Lines

/-! ## The blocks of a message in order -/

/-- In a framed message the blocks before another are whole (R202). -/
theorem framedMessage_append_cons {done rest : List (Word × Tag)} {b : Word × Tag}
    (h : framedMessage (done ++ b :: rest) = true) : (∀ x ∈ done, x.2 = 8#4) ∧ b.2 ≤ 8#4 := by
  induction done with
  | nil =>
    refine ⟨by simp, ?_⟩
    cases rest with
    | nil => exact of_decide_eq_true h
    | cons c rest =>
      rw [List.nil_append, framedMessage_cons b.1 b.2 (List.cons_ne_nil c rest), Bool.and_eq_true, beq_iff_eq] at h
      exact h.1 ▸ BitVec.le_refl _
  | cons x done ih =>
    rw [List.cons_append, framedMessage_cons x.1 x.2 (by simp), Bool.and_eq_true, beq_iff_eq] at h
    obtain ⟨hwhole, hb⟩ := ih h.2
    exact ⟨List.forall_mem_cons.2 ⟨h.1, hwhole⟩, hb⟩

section Message

variable {s t : State} {m : Mode} {d : Dir} {done blocks : List (Word × Tag)} {p : Nat}

/-- The rest of a message's blocks, by induction: each is fed in a message that has the ones before it done. -/
theorem nextEvents_blocks {es : List Event} (hin : InMessage s m d done t)
    (hs : t.schedule = blocks.flatMap (fun b => feedEvents b.1 (b.2.setWidth 64) p) ++ es)
    (hframed : framedMessage (done ++ blocks) = true) (hlen : m = .ctr → (done ++ blocks).length ≤ 2 ^ 64) :
    ∃ u, nextEvents (blocks.length * (p + 7)) t = .next u ∧ u.schedule = es ∧ InMessage s m d (done ++ blocks) u := by
  induction blocks generalizing done t with
  | nil => exact ⟨t, by simp [nextEvents], hs, by simpa using hin⟩
  | cons b rest ih =>
    obtain ⟨htags, htag⟩ := framedMessage_append_cons hframed
    have hleft : m = .ctr → done.length < 2 ^ 64 := fun hm => by
      have := hlen hm
      rw [List.length_append, List.length_cons] at this
      omega
    rw [List.flatMap_cons, List.append_assoc] at hs
    obtain ⟨u, hfeed, hsu, hinu⟩ := nextEvents_nextBlock hin hs htags htag hleft
    have happend : done ++ b :: rest = done ++ [b] ++ rest := by simp
    rw [happend] at hframed hlen ⊢
    obtain ⟨v, hrest, hsv, hinv⟩ := ih hinu hsu hframed hlen
    refine ⟨v, ?_, hsv, hinv⟩
    rw [List.length_cons, Nat.succ_mul, Nat.add_comm, nextEvents_add _ hfeed, hrest]

/-- The protocol of R191 and R192 from a quiet core with a key: the message is performed and ended. -/
theorem nextEvents_message {start : Instr} (hstart : Starts start m d) (hs : s.schedule = messageEvents start blocks p)
    (hframed : framedMessage blocks = true) (hreads : s.reads = []) (hlen : m = .ctr → blocks.length ≤ 2 ^ 64)
    (hquiet : s.Quiet) (hkey : s.status.keyValid = true) (hidle : s.status.msgActive = false) :
    ∃ t, nextEvents (2 * (p + 3) + blocks.length * (p + 7)) s = .next t ∧ t.schedule = [] ∧
      MessageEnded s m d blocks t := by
  rw [messageEvents, List.append_assoc] at hs
  obtain ⟨t, hrunStart, hst, hint⟩ := nextEvents_start hstart hs hquiet hkey hidle hreads
  obtain ⟨u, hrunBlocks, hsu, hinu⟩ := nextEvents_blocks hint hst hframed hlen
  obtain ⟨v, hrunEnd, hsv, hended⟩ := nextEvents_end hsu hinu
  refine ⟨v, ?_, hsv, hended⟩
  have hsteps : 2 * (p + 3) + blocks.length * (p + 7) = p + 3 + (blocks.length * (p + 7) + (p + 3)) := by omega
  rw [hsteps, nextEvents_add _ hrunStart, nextEvents_add _ hrunBlocks, hrunEnd]

end Message

/-! ## The obligations on whole messages -/

/-- In ECB the output of a block does not depend on its place. -/
theorem mapIdx_blockOutput_ecb (sks : Vector Subkey 16) (d : Dir) (blocks : List (Word × Tag)) :
    blocks.mapIdx (blockOutput sks .ecb d) = blocks.map fun b => transformBlock b.1 sks (d == .encrypt) :=
  List.ext_getElem (by simp) (by simp [blockOutput])

/-- Settles O47: an ECB message's outputs are each its block's, whatever its place. -/
theorem ecbMessageOutputs : Obligations.EcbMessageOutputs := by
  intro s start forward blocks polls hstart hs hframed hreads herr hkey hidle hread hbusy hlatch
  obtain ⟨d, hd, rfl⟩ : ∃ d, Starts start .ecb d ∧ forward = (d == .encrypt) := by
    rcases hstart with ⟨rfl, rfl⟩ | ⟨rfl, rfl⟩
    · exact ⟨_, .ecbEnc, rfl⟩
    · exact ⟨_, .ecbDec, rfl⟩
  obtain ⟨t, hrun, hst, hquiet, hkept, hhost, hended, -⟩ :=
    nextEvents_message hd hs hframed hreads nofun ⟨herr, hread, hbusy, hlatch⟩ hkey hidle
  exact ⟨t, hrun, hst, hhost.outputs.trans (mapIdx_blockOutput_ecb _ _ _), hhost.tags, hquiet.err, hended, hkept.key,
    hkept.sk, hkept.fault⟩

/-- Settles O48: block `n` of a CTR message meets the counter `n`. -/
theorem ctrMessageOutputs : Obligations.CtrMessageOutputs := by
  intro s start blocks polls hstart hs hframed hreads hlen herr hkey hidle hread hbusy hlatch
  obtain ⟨d, hd⟩ : ∃ d, Starts start .ctr d := by
    rcases hstart with rfl | rfl
    · exact ⟨_, .ctrEnc⟩
    · exact ⟨_, .ctrDec⟩
  obtain ⟨t, hrun, hst, hquiet, hkept, hhost, hended, hctr⟩ :=
    nextEvents_message hd hs hframed hreads (fun _ => hlen) ⟨herr, hread, hbusy, hlatch⟩ hkey hidle
  exact ⟨t, hrun, hst, hhost.outputs, hhost.tags, hctr rfl, hquiet.err, hended, hkept.key, hkept.sk, hkept.fault⟩

/-- Each block's output, processed at the same place the other way, is the block (R170, R197). -/
theorem blockOutput_decrypt_encrypt (sks : Vector Subkey 16) (m : Mode) (n : Nat) (b : Word × Tag) (g : Tag) :
    blockOutput sks m .decrypt n (blockOutput sks m .encrypt n b, g) = b.1 := by
  cases m with
  | ecb => exact transformBlock_transformBlock_not b.1 sks true
  | ctr => simp only [blockOutput, BitVec.xor_assoc, BitVec.xor_self, BitVec.xor_zero]

/-- What an encryption gives, each output with its block's tag: what the host feeds back (R197). -/
def encrypted (sks : Vector Subkey 16) (m : Mode) (blocks : List (Word × Tag)) : List (Word × Tag) :=
  (blocks.mapIdx (blockOutput sks m .encrypt)).zip (blocks.map Prod.snd)

theorem length_encrypted (sks : Vector Subkey 16) (m : Mode) (blocks : List (Word × Tag)) :
    (encrypted sks m blocks).length = blocks.length := by
  simp [encrypted]

theorem decrypt_encrypted (sks : Vector Subkey 16) (m : Mode) (blocks : List (Word × Tag)) :
    (encrypted sks m blocks).mapIdx (blockOutput sks m .decrypt) = blocks.map Prod.fst := by
  refine List.ext_getElem (by simp [encrypted]) fun n hn _ => ?_
  simp [encrypted, blockOutput_decrypt_encrypt]

/-- Framing speaks of the tags only (R202). -/
theorem framedMessage_congr {xs ys : List (Word × Tag)} (h : xs.map Prod.snd = ys.map Prod.snd) :
    framedMessage xs = framedMessage ys := by
  induction xs generalizing ys with
  | nil => cases ys with
    | nil => rfl
    | cons y ys => cases h
  | cons x xs ih => cases ys with
    | nil => cases h
    | cons y ys =>
      obtain ⟨htag, hrest⟩ := List.cons.inj h
      have htag : x.2 = y.2 := htag
      by_cases hnil : xs = []
      · have hnil' : ys = [] := by simpa [hnil] using hrest.symm
        simp [hnil, hnil', framedMessage, htag]
      · have hnil' : ys ≠ [] := fun hy => hnil (by simpa [hy] using hrest)
        rw [framedMessage_cons x.1 x.2 hnil, framedMessage_cons y.1 y.2 hnil', htag, ih hrest]

theorem framedMessage_encrypted (sks : Vector Subkey 16) (m : Mode) (blocks : List (Word × Tag)) :
    framedMessage (encrypted sks m blocks) = framedMessage blocks :=
  framedMessage_congr (List.map_snd_zip (by simp))

/-- Settles O49: the outputs with the blocks' tags are a framed message, whose outputs are the blocks. -/
theorem messageRoundTrip : Obligations.MessageRoundTrip := by
  intro s first second blocks polls hcommands hframed hlen herr hkey hidle hread hbusy hlatch
  obtain ⟨m, hfirst, hsecond⟩ : ∃ m, Starts first m .encrypt ∧ Starts second m .decrypt := by
    rcases hcommands with ⟨rfl, rfl⟩ | ⟨rfl, rfl⟩
    · exact ⟨_, .ecbEnc, .ecbDec⟩
    · exact ⟨_, .ctrEnc, .ctrDec⟩
  obtain ⟨t, hrun, hst, hquiet, hkept, hhost, hended, -⟩ :=
    nextEvents_message (s := withRecords (messageEvents first blocks polls) [] s) hfirst rfl hframed rfl
      (fun _ => hlen) ⟨herr, hread, hbusy, hlatch⟩ hkey hidle
  have hfed : (readsOf .dout t.reads).zip (blocks.map Prod.snd) = encrypted (subkeys s) m blocks :=
    congrArg (List.zip · _) hhost.outputs
  have hlength := length_encrypted (subkeys s) m blocks
  obtain ⟨u, hrun', hsu, hquiet', -, hhost', -, -⟩ :=
    nextEvents_message (s := withRecords (messageEvents second (encrypted (subkeys s) m blocks) polls) [] t) hsecond rfl
      ((framedMessage_encrypted _ _ _).trans hframed) rfl (fun _ => hlength.trans_le hlen)
      ⟨hquiet.err, hquiet.read, hquiet.idle, hquiet.latch⟩ (hkept.keyValid.trans hkey) hended
  have hsk : subkeys t = subkeys s := subkeys_of_kept (s := withRecords _ [] s) hkept
  have hout := hhost'.outputs
  rw [subkeys_withRecords, hsk, decrypt_encrypted] at hout
  refine ⟨t, u, hrun, hst, ?_⟩
  rw [hfed]
  exact ⟨hlength ▸ hrun', hsu, hout, hquiet'.err⟩

end Sys2Proof.Machine
end

section
/-! PROOFS. The control of the core (45_control.md): no step stops (R225), the core's turn performs the pending command
(R225, R226), the control commands (R220, R221), and what a host access stores, returns and changes (R222, R223). -/

namespace Sys2Proof.Machine

/-! ## The control commands -/

/-- Settles O24: the words are those of `encode`, and each command is its one operation. -/
theorem controlCommands : Obligations.ControlCommands :=
  ⟨decode_encode .nop, decode_encode .clearErr, fun _ => ⟨rfl, rfl⟩⟩

/-! ## The core's turn -/

/-- The core's turn on a pending command is `exec` of that command, which always answers, and frees the latch. -/
theorem exists_exec_coreStep {s : State} {v : Word} {i : Instr} (hpending : s.pending = some v)
    (hdecode : decode v = .ok i) : ∃ t, exec i s = .next t ∧ coreStep s = .next (freeLatch t) := by
  obtain ⟨t, ht, -⟩ := exec_cases i s
  exact ⟨t, ht, coreStep_of_ok hpending hdecode ht⟩

/-- Settles O11: both ways to the core's turn are one core step. -/
theorem coreStepRunsDecodedCommand : Obligations.CoreStepRunsDecodedCommand := by
  intro s v i es hcore hpending hdecode
  rw [step_of_core hcore]
  exact exists_exec_coreStep hpending hdecode

/-- Settles O12: the word latched is the command's, and the core's turn is listed first. -/
theorem fetchWordRunsNext : Obligations.FetchWordRunsNext := by
  intro s i
  have hlisted : (withPending (encode i) s).schedule = .core :: s.schedule := rfl
  rw [State.withFetchWord, Laws.Decode.tableWord_toNat, step_of_core (.inl hlisted)]
  exact exists_exec_coreStep (s := latch (encode i) s) rfl (decode_encode i)

/-! ## No step stops or changes the parameters -/

section Parameters

variable {s t : State}

theorem cfg_performed {i : Instr} (hp : Performed s i t) : t.cfg = s.cfg := by
  cases hp with
  | loadKey => simp [loadKeyEffect]
  | encBlock => simp [encBlockEffect]
  | decBlock => simp [decBlockEffect]
  | round => simp [roundEffect]
  | ecbEncStart | ecbDecStart | ctrEncStart | ctrDecStart | msgEnd => rfl
  | msgBlock => simp [msgBlockEffect]

theorem cfg_of_execCases {i : Instr} (hc : ExecCases s i t) : t.cfg = s.cfg := by
  rcases hc with ⟨rfl, -⟩ | ⟨-, rfl⟩ | ⟨-, e, rfl | ⟨-, rfl⟩⟩ | ⟨-, hp⟩
  · rfl
  · rfl
  · rfl
  · rfl
  · exact cfg_performed hp

theorem cfg_illegalWord (s : State) : (illegalWord s).cfg = s.cfg := by
  rcases illegalWord_cases s with ⟨-, hw⟩ | ⟨-, hw⟩ <;> simp [hw]

theorem cfg_hostWrite (idx : RegIndex) (v : Word) (s : State) : (hostWrite idx v s).cfg = s.cfg := by
  rcases hostWrite_cases idx v s with ⟨-, hw | hw | hw⟩ | hw | hw <;> simp [hw]

theorem cfg_readEvent (idx : RegIndex) (s : State) : (readEvent idx s).cfg = s.cfg := by
  rcases hostRead_cases idx s with hr | hr | ⟨u, c, hr | hr | ⟨b, -, hr | hr⟩⟩ <;> simp [readEvent, hr]

theorem cfg_waitEvent (polls : Nat) (s : State) : (waitEvent polls s).cfg = s.cfg := by
  rw [waitEvent_eq]
  split <;> simp

theorem exists_coreStep_cfg (s : State) : ∃ t, coreStep s = .next t ∧ t.cfg = s.cfg := by
  obtain ⟨t, ht, ⟨-, rfl⟩ | ⟨v, -, ⟨e, -, rfl⟩ | ⟨i, u, -, -, hc, rfl⟩⟩⟩ := coreStep_cases s
  · exact ⟨t, ht, rfl⟩
  · exact ⟨_, ht, (freeLatch_cfg _).trans (cfg_illegalWord s)⟩
  · exact ⟨_, ht, (freeLatch_cfg u).trans (cfg_of_execCases hc)⟩

theorem exists_applyEvent_cfg (e : Event) (s : State) : ∃ t, applyEvent e s = .next t ∧ t.cfg = s.cfg := by
  cases e with
  | write idx v => exact ⟨_, rfl, cfg_hostWrite idx v s⟩
  | read idx => exact ⟨_, rfl, cfg_readEvent idx s⟩
  | core => exact exists_coreStep_cfg s
  | rst => exact ⟨_, rfl, rfl⟩
  | wait polls => exact ⟨_, rfl, cfg_waitEvent polls s⟩

end Parameters

/-- Settles O10: the step is the event listed first, or the core's. -/
theorem everyStepAnswersNextAndKeepsParameters : Obligations.EveryStepAnswersNextAndKeepsParameters := by
  intro s
  cases hs : s.schedule with
  | nil =>
    rw [step_of_nil hs]
    exact exists_coreStep_cfg s
  | cons e es =>
    rw [step_of_event hs]
    exact exists_applyEvent_cfg e { s with schedule := es }

/-! ## Host writes -/

section Writes

variable {s : State}

theorem step_of_write {idx : RegIndex} {v : Word} {es : List Event} (hs : s.schedule = .write idx v :: es) :
    step s = .next (hostWrite idx v { s with schedule := es }) := step_of_event hs

theorem unlessBusy_of_busy (store : State → State) (hbusy : s.status.busy = true) :
    unlessBusy store s = raiseErr .busy s := by
  simp [unlessBusy, hbusy]

theorem unlessBusy_of_idle (store : State → State) (hidle : s.status.busy = false) : unlessBusy store s = store s := by
  simp [unlessBusy, hidle]

/-- While BUSY = 1 a write of CMD, DIN or DIN_TAG stores nothing (R222, R66). -/
theorem hostWrite_storing_of_busy {idx : RegIndex} (v : Word) (hidx : idx = 0x00#8 ∨ idx = 0x02#8 ∨ idx = 0x03#8)
    (hbusy : s.status.busy = true) : hostWrite idx v s = raiseErr .busy s := by
  rcases hidx with rfl | rfl | rfl
  · exact unlessBusy_of_busy (latch v) hbusy
  · exact unlessBusy_of_busy (storeDin v) hbusy
  · exact unlessBusy_of_busy (storeDinTag v) hbusy

theorem hostWrite_cmd_of_idle (v : Word) (hidle : s.status.busy = false) : hostWrite 0x00#8 v s = latch v s :=
  unlessBusy_of_idle (latch v) hidle

theorem hostWrite_din_of_idle (v : Word) (hidle : s.status.busy = false) : hostWrite 0x02#8 v s = storeDin v s :=
  unlessBusy_of_idle (storeDin v) hidle

/-- DIN_TAG takes the low four bits of the value (R36). -/
theorem hostWrite_dinTag_of_idle (v : Word) (hidle : s.status.busy = false) :
    hostWrite 0x03#8 v s = { s with dinTag := v.setWidth 4, dinTagUnwritten := false } := by
  rw [BitVec.setWidth_eq_extractLsb' (by decide)]
  exact unlessBusy_of_idle (storeDinTag v) hidle

end Writes

/-- Settles O19: three registers store unless BUSY = 1, and every other index is read-only or reserved. -/
theorem hostWriteEffects : Obligations.HostWriteEffects := by
  refine ⟨rfl, rfl, fun s idx v es hs => ?_⟩
  rw [step_of_write hs]
  refine ⟨fun hidx hbusy => ?_, ?_, ?_, ?_, fun hcmd hdin hdinTag => ?_⟩
  · exact congrArg _ (hostWrite_storing_of_busy v hidx hbusy)
  · rintro rfl hidle
    exact congrArg _ (hostWrite_cmd_of_idle v hidle)
  · rintro rfl hidle
    exact congrArg _ (hostWrite_din_of_idle v hidle)
  · rintro rfl hidle
    exact congrArg _ (hostWrite_dinTag_of_idle v hidle)
  · have hreadOnly : idx = 0x01#8 ∨ 0x04#8 ≤ idx := by bv_omega
    exact congrArg _ (hostWrite_of_readOnly v hreadOnly)

/-! ## Host reads -/

section Reads

variable {s : State}

/-- The host keeps the value that `HostRead` returns (R223, log 8). -/
theorem step_of_read {idx : RegIndex} {es : List Event} {w : Word} {t : State} (hs : s.schedule = .read idx :: es)
    (hread : hostRead idx { s with schedule := es } = (w, t)) : step s = .next (logRead idx w t) := by
  rw [step_of_event hs, applyEvent, readEvent, hread]

/-- With BUSY = 0 the value is the register's, and the run is marked where that is UNSPECIFIED (log 2). -/
theorem readResult_of_idle (w : Word) (u : UnspecUse) (c : Bool) (hidle : s.status.busy = false) :
    readResult w u c s = (w, noteUnspec u c s) := by
  simp [readResult, hidle]

theorem hostRead_dout_of_idle (hidle : s.status.busy = false) :
    hostRead 0x04#8 s = (s.dout, setPending false (noteUnspec .readNoResult (!s.status.doutValid) s)) := by
  change readDout s = _
  simp [readDout, readResult_of_idle _ _ _ hidle, hidle]

theorem hostRead_doutTag_of_idle (hidle : s.status.busy = false) :
    hostRead 0x05#8 s = (s.doutTag.setWidth 64, noteUnspec .readUnwritten s.doutTagUnwritten s) :=
  readResult_of_idle _ _ _ hidle

/-- CTR always holds a value (R39). -/
theorem hostRead_ctr_of_idle (hidle : s.status.busy = false) : hostRead 0x06#8 s = (s.ctr, s) :=
  (readResult_of_idle s.ctr .readBusy false hidle).trans (by rw [noteUnspec_false])

theorem hostRead_key_of_idle (hidle : s.status.busy = false) :
    hostRead 0x07#8 s = (s.key, noteUnspec .readNoKey (!s.status.keyValid) s) :=
  readResult_of_idle _ _ _ hidle

/-- The index of SK[i] (R20). -/
theorem add_ofNat_eq_indexOfReg_sk : ∀ i : Fin 16, 0x10#8 + BitVec.ofNat 8 i.val = indexOfReg (.sk (.ofFin i)) := by
  decide

theorem hostRead_sk_of_idle (i : Fin 16) (hidle : s.status.busy = false) :
    hostRead (0x10#8 + BitVec.ofNat 8 i.val) s = (s.sk[i], noteUnspec .readNoKey (!s.status.keyValid) s) := by
  rw [add_ofNat_eq_indexOfReg_sk, hostRead, regOfIndex_indexOfReg]
  exact readResult_of_idle _ _ _ hidle

end Reads

/-- Settles O21: CMD, STATUS and the operands read the same at any time, the other registers with BUSY = 0. -/
theorem hostReadEffects : Obligations.HostReadEffects := by
  intro s idx es hs
  refine ⟨?_, ?_, ?_, ?_, fun hidle => ⟨?_, ?_, ?_, ?_, fun i => ?_⟩⟩
  · rintro rfl
    exact step_of_read hs rfl
  · rintro rfl
    exact step_of_read hs rfl
  · rintro rfl
    exact step_of_read hs rfl
  · rintro rfl
    exact step_of_read hs rfl
  · rintro rfl
    exact step_of_read hs (hostRead_dout_of_idle hidle)
  · rintro rfl
    exact step_of_read hs (hostRead_doutTag_of_idle hidle)
  · rintro rfl
    exact step_of_read hs (hostRead_ctr_of_idle hidle)
  · rintro rfl
    exact step_of_read hs (hostRead_key_of_idle hidle)
  · rintro rfl
    exact step_of_read hs (hostRead_sk_of_idle i hidle)

end Sys2Proof.Machine
end

section
/-! PROOFS. Errors (60_exceptions.md): what `raise Err(e)` writes (R244), that a refused command does nothing else (R245),
that a recorded error shuts out the commands (R246), and what a step that raises an error leaves (R244, R26). -/

namespace Sys2Proof.Machine

section Raise

variable {s t : State} {i : Instr}

/-! ## Recording -/

theorem raiseErr_of_none (e : ErrCode) (herr : s.status.err = none) :
    raiseErr e s =
      { s with errLog := s.errLog ++ [e], status := { s.status with err := some e, msgActive := false } } := by
  rw [raiseErr, Status.afterRaise, herr, Option.none_or]

theorem raiseErr_of_some (e : ErrCode) (herr : s.status.err ≠ none) :
    raiseErr e s = { s with errLog := s.errLog ++ [e], status := { s.status with msgActive := false } } := by
  rw [raiseErr, Status.afterRaise, Option.or_of_isSome (Option.isSome_iff_ne_none.2 herr)]

/-! ## Refused commands -/

theorem errLog_performed (hp : Performed s i t) : t.errLog = s.errLog := by
  cases hp with
  | loadKey | encBlock | decBlock | round => rfl
  | ecbEncStart | ecbDecStart | ctrEncStart | ctrDecStart | msgEnd => rfl
  | msgBlock => simp [msgBlockEffect]

/-- A command that logs an error found ERR 0 and did nothing but raise it, on the state as it was or with DIN_TAG
marked as read (log 15). -/
theorem raised_of_execCases (hc : ExecCases s i t) (hlog : t.errLog ≠ s.errLog) :
    s.status.err = none ∧ ∃ e, t = raiseErr e s ∨ t = raiseErr e (noteTagRead s) := by
  rcases hc with ⟨rfl, -⟩ | ⟨-, rfl⟩ | ⟨herr, e, hraise | ⟨-, hraise⟩⟩ | ⟨-, hp⟩
  · exact absurd rfl hlog
  · exact absurd rfl hlog
  · exact ⟨herr, e, .inl hraise⟩
  · exact ⟨herr, e, .inr hraise⟩
  · exact absurd (errLog_performed hp) hlog

/-! ## Ignored words -/

theorem exec_of_err (hne : i ≠ .clearErr) (herr : s.status.err ≠ none) : exec i s = .next s := by
  obtain ⟨t, hexec, ⟨rfl, -⟩ | ⟨hclear, -⟩ | ⟨hnone, -⟩ | ⟨hnone, -⟩⟩ := exec_cases i s
  · exact hexec
  · exact absurd hclear hne
  · exact absurd hnone herr
  · exact absurd hnone herr

/-- While ERR is not 0 the core's turn on any word but CLEAR_ERR's only frees the latch. -/
theorem coreStep_of_err {v : Word} (hpending : s.pending = some v) (herr : s.status.err ≠ none)
    (hclear : v ≠ encode .clearErr) : coreStep s = .next (freeLatch s) := by
  cases hd : decode v with
  | error e => rw [coreStep_of_error hpending hd, illegalWord, unlessErr_of_some herr]
  | ok i =>
    have hne : i ≠ .clearErr := by
      rintro rfl
      exact hclear (eq_encode_of_decode hd)
    exact coreStep_of_ok hpending hd (exec_of_err hne herr)

/-! ## What a raised error leaves -/

/-- The log of raised errors is as before, or it took one code, no message is active and ERR is not 0. -/
def QuietOrRaised (s t : State) : Prop :=
  t.errLog = s.errLog ∨ ((∃ e, t.errLog = s.errLog ++ [e]) ∧ t.status.msgActive = false ∧ t.status.err ≠ none)

theorem quietOrRaised_raiseErr (e : ErrCode) : QuietOrRaised s (raiseErr e s) := .inr ⟨⟨e, rfl⟩, rfl, by simp⟩

theorem quietOrRaised_hostWrite (idx : RegIndex) (v : Word) : QuietOrRaised s (hostWrite idx v s) := by
  rcases hostWrite_cases idx v s with ⟨-, hw | hw | hw⟩ | hw | hw <;> rw [hw]
  · exact .inl rfl
  · exact .inl rfl
  · exact .inl rfl
  · exact quietOrRaised_raiseErr .busy
  · exact quietOrRaised_raiseErr .access

theorem quietOrRaised_readEvent (idx : RegIndex) : QuietOrRaised s (readEvent idx s) := by
  rcases hostRead_cases idx s with hr | hr | ⟨u, c, hr | hr | ⟨b, -, hr | hr⟩⟩ <;> rw [readEvent, hr]
  case inr.inl => exact quietOrRaised_raiseErr (s := s) .access
  all_goals exact .inl rfl

theorem errLog_waitEvent (polls : Nat) (s : State) : (waitEvent polls s).errLog = s.errLog := by
  rw [waitEvent_eq]
  split <;> rfl

theorem quietOrRaised_illegalWord : QuietOrRaised s (illegalWord s) := by
  rcases illegalWord_cases s with ⟨-, hw⟩ | ⟨-, hw⟩ <;> rw [hw]
  · exact .inl rfl
  · exact quietOrRaised_raiseErr .illegal

theorem quietOrRaised_execCases (hc : ExecCases s i t) : QuietOrRaised s t := by
  by_cases hlog : t.errLog = s.errLog
  · exact .inl hlog
  · obtain ⟨-, e, rfl | rfl⟩ := raised_of_execCases hc hlog
    · exact quietOrRaised_raiseErr e
    · exact quietOrRaised_raiseErr (s := noteTagRead s) e

/-- Freeing the latch touches neither the log nor ERR nor MSG_ACTIVE. -/
theorem quietOrRaised_coreStep (h : coreStep s = .next t) : QuietOrRaised s t := by
  rcases coreStep_next_cases h with ⟨-, rfl⟩ | ⟨v, -, ⟨e, -, rfl⟩ | ⟨i, u, -, -, hc, rfl⟩⟩
  · exact .inl rfl
  · exact quietOrRaised_illegalWord (s := s)
  · exact quietOrRaised_execCases (t := u) hc

theorem quietOrRaised_step (h : step s = .next t) : QuietOrRaised s t := by
  obtain ⟨es, ⟨idx, v, -, rfl⟩ | ⟨idx, -, rfl⟩ | ⟨-, rfl⟩ | ⟨polls, -, rfl⟩ | ⟨-, hcore⟩⟩ := step_next_cases h
  · exact quietOrRaised_hostWrite (s := { s with schedule := es }) idx v
  · exact quietOrRaised_readEvent (s := { s with schedule := es }) idx
  · exact .inl rfl
  · exact .inl (errLog_waitEvent polls { s with schedule := es })
  · exact quietOrRaised_coreStep (s := { s with schedule := es }) hcore

end Raise

/-- Settles O14: by whether an error is already recorded. -/
theorem raiseErrRecordsAndAborts : Obligations.RaiseErrRecordsAndAborts :=
  fun _ e => ⟨raiseErr_of_none e, raiseErr_of_some e⟩

/-- Settles O15: CLEAR_ERR's is the one word that would change more; NOP's, which the statement leaves out, is no
exception to the effect. -/
theorem stickyErrIgnoresCommands : Obligations.StickyErrIgnoresCommands := by
  intro s v es hs hpending herr _ hclear
  rw [step_of_core (.inl hs)]
  exact coreStep_of_err (s := { s with schedule := es }) hpending herr hclear

/-- Settles O16: a command that logs an error is `raise` alone, which with ERR 0 writes ERR and MSG_ACTIVE. -/
theorem refusedCommandIsPrecise : Obligations.RefusedCommandIsPrecise := by
  intro i s t hexec hlog
  obtain ⟨herr, e, rfl | rfl⟩ := raised_of_execCases (execCases_of_exec hexec) hlog
  · exact ⟨e, herr, raiseErr_of_none e herr⟩
  · exact ⟨e, herr, raiseErr_of_none (s := noteTagRead s) e herr⟩

/-- Settles O18: of the two outcomes of a step, the log rules out the quiet one. -/
theorem raisedErrorAbortsMessage : Obligations.RaisedErrorAbortsMessage :=
  fun _ _ hstep hlog => (quietOrRaised_step hstep).resolve_left hlog

end Sys2Proof.Machine
end

section
/-! PROOFS. Reset and hazards (70_reset_and_hazards.md): what RST fixes (R270), that KEY_VALID and DOUT_VALID return to 0
only by it (R272), and that a command leaves the latch within a bounded number of steps (R282). -/

namespace Sys2Proof.Machine

/-! ## RST -/

/-- Settles O6: the step is `resetEvent`, by its values field by field. -/
theorem resetEventValues : Obligations.ResetEventValues := by
  intro s es hs
  obtain ⟨hword, -⟩ := resetStateValues
  exact ⟨resetEvent { s with schedule := es }, step_of_event hs, hword, rfl, rfl, rfl, rfl, rfl, rfl⟩

/-! ## The flags KEY_VALID and DOUT_VALID -/

section ValidFlags

variable {s t : State} {i : Instr}

/-- Neither flag goes from 1 to 0 between the two states. -/
def ValidFlagsKept (s t : State) : Prop :=
  (s.status.keyValid = true → t.status.keyValid = true) ∧ (s.status.doutValid = true → t.status.doutValid = true)

theorem validFlagsKept_raiseErr (e : ErrCode) : ValidFlagsKept s (raiseErr e s) := ⟨id, id⟩

theorem validFlagsKept_hostWrite (idx : RegIndex) (v : Word) : ValidFlagsKept s (hostWrite idx v s) := by
  rcases hostWrite_cases idx v s with ⟨-, hw | hw | hw⟩ | hw | hw <;> rw [hw] <;> exact ⟨id, id⟩

theorem validFlagsKept_readEvent (idx : RegIndex) : ValidFlagsKept s (readEvent idx s) := by
  rcases hostRead_cases idx s with hr | hr | ⟨u, c, hr | hr | ⟨b, -, hr | hr⟩⟩ <;> rw [readEvent, hr] <;>
    exact ⟨id, id⟩

theorem validFlagsKept_waitEvent (polls : Nat) : ValidFlagsKept s (waitEvent polls s) := by
  rw [waitEvent_eq]
  split <;> exact ⟨id, id⟩

theorem validFlagsKept_illegalWord : ValidFlagsKept s (illegalWord s) := by
  rcases illegalWord_cases s with ⟨-, hw⟩ | ⟨-, hw⟩ <;> rw [hw]
  · exact ⟨id, id⟩
  · exact validFlagsKept_raiseErr .illegal

/-- A performed command writes only 1 to the two flags: LOAD_KEY to one, the commands with a result to the other. -/
theorem validFlagsKept_performed (hp : Performed s i t) : ValidFlagsKept s t := by
  cases hp with
  | loadKey => exact ⟨fun _ => rfl, id⟩
  | encBlock | decBlock | round => exact ⟨id, fun _ => rfl⟩
  | ecbEncStart | ecbDecStart | ctrEncStart | ctrDecStart | msgEnd => exact ⟨id, id⟩
  | msgBlock => exact ⟨by simp, by simp⟩

theorem validFlagsKept_execCases (hc : ExecCases s i t) : ValidFlagsKept s t := by
  rcases hc with ⟨rfl, -⟩ | ⟨-, rfl⟩ | ⟨-, e, rfl | ⟨-, rfl⟩⟩ | ⟨-, hp⟩
  · exact ⟨id, id⟩
  · exact ⟨id, id⟩
  · exact validFlagsKept_raiseErr e
  · exact validFlagsKept_raiseErr (s := noteTagRead s) e
  · exact validFlagsKept_performed hp

/-- Freeing the latch touches neither flag. -/
theorem validFlagsKept_coreStep (h : coreStep s = .next t) : ValidFlagsKept s t := by
  rcases coreStep_next_cases h with ⟨-, rfl⟩ | ⟨v, -, ⟨e, -, rfl⟩ | ⟨i, u, -, -, hc, rfl⟩⟩
  · exact ⟨id, id⟩
  · exact validFlagsKept_illegalWord (s := s)
  · exact validFlagsKept_execCases (t := u) hc

theorem validFlagsKept_step (h : step s = .next t) (hrst : ∀ es, s.schedule ≠ .rst :: es) : ValidFlagsKept s t := by
  obtain ⟨es, ⟨idx, v, -, rfl⟩ | ⟨idx, -, rfl⟩ | ⟨hs, -⟩ | ⟨polls, -, rfl⟩ | ⟨-, hcore⟩⟩ := step_next_cases h
  · exact validFlagsKept_hostWrite (s := { s with schedule := es }) idx v
  · exact validFlagsKept_readEvent (s := { s with schedule := es }) idx
  · exact absurd hs (hrst es)
  · exact validFlagsKept_waitEvent (s := { s with schedule := es }) polls
  · exact validFlagsKept_coreStep (s := { s with schedule := es }) hcore

end ValidFlags

/-- Settles O56: by the kind of event; every one but RST only sets the two flags. -/
theorem validFlagsClearedOnlyByReset : Obligations.ValidFlagsClearedOnlyByReset :=
  fun _ _ => validFlagsKept_step

/-! ## The latch empties -/

/-- The steps a listed event can take until it is over or the latch is empty: for a WAIT its reads that find BUSY = 1
and the core's turn in it (R81, log 13). -/
def eventSteps : Event → Nat
  | .wait polls => polls + 2
  | .write _ _ | .read _ | .core | .rst => 1

/-- Within `n` steps there is one after which PENDING is empty. -/
def EmptiesWithin (n : Nat) (s : State) : Prop := ∃ m t, m ≤ n ∧ nextEvents m s = .next t ∧ t.pending = none

section Latch

variable {s t : State}

theorem emptiesWithin_mono {n m : Nat} (hle : n ≤ m) (h : EmptiesWithin n s) : EmptiesWithin m s := by
  obtain ⟨k, t, hk, hrun, hempty⟩ := h
  exact ⟨k, t, hk.trans hle, hrun, hempty⟩

theorem emptiesWithin_one (hstep : step s = .next t) (hempty : t.pending = none) : EmptiesWithin 1 s :=
  ⟨1, t, le_rfl, nextEvents_succ 0 hstep, hempty⟩

theorem emptiesWithin_succ {n : Nat} (hstep : step s = .next t) (h : EmptiesWithin n t) : EmptiesWithin (n + 1) s := by
  obtain ⟨m, u, hm, hrun, hempty⟩ := h
  exact ⟨m + 1, u, Nat.succ_le_succ hm, (nextEvents_succ m hstep).trans hrun, hempty⟩

/-- The core's turn leaves PENDING empty, whatever it did with the word (R225). -/
theorem exists_coreStep_pending (s : State) : ∃ t, coreStep s = .next t ∧ t.pending = none := by
  obtain ⟨t, ht, ⟨hnone, rfl⟩ | ⟨v, -, ⟨e, -, rfl⟩ | ⟨i, u, -, -, -, rfl⟩⟩⟩ := coreStep_cases s
  · exact ⟨t, ht, hnone⟩
  · exact ⟨_, ht, rfl⟩
  · exact ⟨_, ht, rfl⟩

theorem emptiesWithin_of_core {es : List Event} (hs : s.schedule = .core :: es ∨ (s.schedule = [] ∧ es = [])) :
    EmptiesWithin 1 s := by
  obtain ⟨t, ht, hempty⟩ := exists_coreStep_pending { s with schedule := es }
  exact emptiesWithin_one ((step_of_core hs).trans ht) hempty

/-- A WAIT with BUSY = 1 comes to the core's turn: each read lists a WAIT with one read less, and the last the turn. -/
theorem emptiesWithin_wait {polls : Nat} {es : List Event} (hs : s.schedule = .wait polls :: es)
    (hbusy : s.status.busy = true) : EmptiesWithin (polls + 2) s := by
  induction polls generalizing s with
  | zero =>
    exact emptiesWithin_succ (step_of_wait hs)
      (emptiesWithin_of_core (es := .wait 0 :: es) (.inl (by simp [hbusy, waitEvents])))
  | succ n ih => exact emptiesWithin_succ (step_of_wait hs) (ih (by simp [hbusy, waitEvents]) hbusy)

theorem schedule_hostWrite (idx : RegIndex) (v : Word) (s : State) : (hostWrite idx v s).schedule = s.schedule := by
  rcases hostWrite_cases idx v s with ⟨-, hw | hw | hw⟩ | hw | hw <;> simp [hw]

theorem schedule_readEvent (idx : RegIndex) (s : State) : (readEvent idx s).schedule = s.schedule := by
  rcases hostRead_cases idx s with hr | hr | ⟨u, c, hr | hr | ⟨b, -, hr | hr⟩⟩ <;> simp [readEvent, hr]

/-- The event listed first empties the latch in its own steps, or is over in one and leaves the rest of the list. -/
theorem emptiesWithin_or_next {e : Event} {es : List Event} (hs : s.schedule = e :: es) :
    EmptiesWithin (eventSteps e) s ∨ ∃ t, step s = .next t ∧ t.schedule = es := by
  cases e with
  | write idx v => exact .inr ⟨_, step_of_event hs, schedule_hostWrite idx v { s with schedule := es }⟩
  | read idx => exact .inr ⟨_, step_of_event hs, schedule_readEvent idx { s with schedule := es }⟩
  | core => exact .inl (emptiesWithin_of_core (.inl hs))
  | rst => exact .inl (emptiesWithin_one (step_of_event hs) rfl)
  | wait polls =>
    cases hbusy : s.status.busy with
    | false => exact .inr ⟨_, step_of_wait hs, by simp [hbusy]⟩
    | true => exact .inl (emptiesWithin_wait hs hbusy)

theorem one_le_eventSteps (e : Event) : 1 ≤ eventSteps e := by
  cases e <;> simp [eventSteps]

/-- From every state the latch is empty within the steps of the listed events and one more, the core's by default. -/
theorem emptiesWithin_schedule (es : List Event) (hs : s.schedule = es) :
    EmptiesWithin ((es.map eventSteps).sum + 1) s := by
  induction es generalizing s with
  | nil => exact emptiesWithin_of_core (.inr ⟨hs, rfl⟩)
  | cons e es ih =>
    have hone := one_le_eventSteps e
    rw [List.map_cons, List.sum_cons]
    rcases emptiesWithin_or_next hs with hempty | ⟨t, hstep, hrest⟩
    · exact emptiesWithin_mono (by omega) hempty
    · exact emptiesWithin_mono (by omega) (emptiesWithin_succ hstep (ih hrest))

end Latch

/-- Settles O51: by induction over the listed events; with none left, or at the first turn of the core, the latch is
freed. -/
theorem latchEmptiesInTheEnd : Obligations.LatchEmptiesInTheEnd := by
  intro s _ steps
  have hsteps : steps = eventSteps := by
    funext e
    cases e <;> rfl
  rw [hsteps]
  exact emptiesWithin_schedule s.schedule rfl

end Sys2Proof.Machine
end
